-- ==== Sys2Proof/Word.lean ====
section
/-! DEFINITION. The plain data every layer shares: bytes, symbols, slot groups, buttons and snapshots
(spec/00_scope.md R6, R7; spec/10_state.md R17). No meaning stands here. -/

namespace Sys2Proof

/-- A logical byte `v[7:0]`; `v[7]` is the first bit on the wire (R6, decision D4). -/
abbrev LByte := BitVec 8

/-- A physical byte: the 8-bit value exchanged with the Transceiver, carrying one symbol (R6, R60). -/
abbrev PByte := BitVec 8

/-- `Sym` (R7): the four data symbols "plus a distinguished `Stop` value". -/
inductive Sym
  | s00 | s01 | s10 | s11 | stop
deriving DecidableEq, Repr, Inhabited

/-- `Sym6` (R7): `Sym` plus `INVALID`, the decode result of an unrecognised physical byte (D1). -/
inductive Sym6
  | sym (s : Sym)
  | invalid
deriving DecidableEq, Repr, Inhabited

/-- The four slots of one command logical byte; slot 0 is first on the wire (R10). -/
structure SlotGroup where
  k0 : Sym6
  k1 : Sym6
  k2 : Sym6
  k3 : Sym6
deriving DecidableEq, Repr, Inhabited

/-- `ButtonState` (R7). As a bit `Released = 0`, `Pushed = 1` (D5). -/
inductive ButtonState
  | released | pushed
deriving DecidableEq, Repr, Inhabited

/-- `ButtonId` (R17): the 22 logical inputs, in the order of R17's numbering (D6). -/
inductive ButtonId
  | a | b | x | y | l | r | z | start
  | dpadUp | dpadDown | dpadLeft | dpadRight
  | msUp | msDown | msLeft | msRight
  | csUp | csDown | csLeft | csRight
  | macroBtn | tilt
deriving DecidableEq, Repr, Inhabited

/-- `Snapshot` (R7): a total map `ButtonId -> ButtonState`, one named field per identifier of R17. -/
structure Snapshot where
  a : ButtonState
  b : ButtonState
  x : ButtonState
  y : ButtonState
  l : ButtonState
  r : ButtonState
  z : ButtonState
  start : ButtonState
  dpadUp : ButtonState
  dpadDown : ButtonState
  dpadLeft : ButtonState
  dpadRight : ButtonState
  msUp : ButtonState
  msDown : ButtonState
  msLeft : ButtonState
  msRight : ButtonState
  csUp : ButtonState
  csDown : ButtonState
  csLeft : ButtonState
  csRight : ButtonState
  macroBtn : ButtonState
  tilt : ButtonState
deriving DecidableEq, Repr, Inhabited

/-- `Cmd` (R7, R11): the source's `GCCommand`. -/
inductive Cmd
  | probe
  | probeOrigin
  | poll (rumble : Bool)
  | unknown
deriving DecidableEq, Repr, Inhabited

/-- `FLEN` in {3, 8, 10} (R12), named by the response format (R63, R64, R65). -/
inductive FrameLen
  | id3 | state8 | origin10
deriving DecidableEq, Repr, Inhabited

/-- The number of logical bytes of a frame length (R12). -/
def FrameLen.toNat : FrameLen → Nat
  | .id3 => 3
  | .state8 => 8
  | .origin10 => 10

/-- The value of the input signals of the three ports at one moment (R25, R27): what the environment
drives. `rxData` is valid while `rxReady`; `buttons` is what the 22 reads of a refresh would sample
(R55: 22 independent free inputs). -/
structure Inputs where
  rxReady    : Bool
  rxData     : PByte
  txReady    : Bool
  txComplete : Bool
  buttons    : Snapshot
deriving DecidableEq, Repr, Inhabited

/-- The state in which every button is released. -/
def Snapshot.neutral : Snapshot :=
  ⟨.released, .released, .released, .released, .released, .released, .released, .released,
   .released, .released, .released, .released, .released, .released, .released, .released,
   .released, .released, .released, .released, .released, .released⟩

end Sys2Proof
end

