-- ==== Sys2Proof/Config.lean ====
section
/-! DEFINITION. The hardwired record CFG (spec/00_scope.md R5, spec/10_state.md R22), its constraints, and the
model's open values: constants with no body, of which a proof knows the constraints and nothing else. -/

namespace Sys2Proof

/-- `CFG.CAL` (R5, R60, R93): the nine calibration bytes, open parameters (D7). -/
structure Cal where
  a : PByte
  b : PByte
  c : PByte
  d : PByte
  e : PByte
  f : PByte
  g : PByte
  h : PByte
  i : PByte
deriving DecidableEq, Repr

/-- The nine calibration bytes in the order `A` to `I` (R5). -/
def Cal.bytes (k : Cal) : List PByte := [k.a, k.b, k.c, k.d, k.e, k.f, k.g, k.h, k.i]

/-- R93: "The nine calibration bytes `CAL.A` to `CAL.I` are pairwise distinct." -/
def Cal.distinct (k : Cal) : Bool := decide k.bytes.Nodup

/-- The axis constants of a main-stick axis, MX or MY (R5): five open bytes (D8). -/
structure MainAxis where
  center  : LByte
  fullNeg : LByte
  fullPos : LByte
  tiltNeg : LByte
  tiltPos : LByte
deriving DecidableEq, Repr

/-- The axis constants of a C-stick axis, CX or CY (R5): three open bytes; the tilt ones do not exist (R136). -/
structure CAxis where
  center  : LByte
  fullNeg : LByte
  fullPos : LByte
deriving DecidableEq, Repr

/-- R5, R137: a reduced deflection is "distinct from the full-deflection encoding". -/
def MainAxis.tiltDistinct (m : MainAxis) : Bool :=
  m.tiltNeg != m.fullNeg && m.tiltPos != m.fullPos

/-- The distance of two bytes as unsigned numbers, used by R137 only. -/
def byteDist (u v : LByte) : Nat := (u.toNat - v.toNat) + (v.toNat - u.toNat)

/-- R137: the reduced deflection is of "reduced-magnitude", `|AX_TILT_x - AX_CENTER| < |AX_FULL_x - AX_CENTER|`. -/
def MainAxis.reduced (m : MainAxis) : Bool :=
  decide (byteDist m.tiltNeg m.center < byteDist m.fullNeg m.center) &&
  decide (byteDist m.tiltPos m.center < byteDist m.fullPos m.center)

/-- The axis constants of the four axes (R5). -/
structure Axes where
  mx : MainAxis
  my : MainAxis
  cx : CAxis
  cy : CAxis
deriving DecidableEq, Repr

/-- The fields of `CFG` the source leaves open or that D3 keeps as parameters (R5). The fields the source fixes
(`CMD_B1_POLL`, `CMD_B2_*`, `ID_BYTES`) are definitions of Sys2Proof/Decode.lean. -/
structure Cfg where
  cal          : Cal
  cmdB0Probe   : LByte
  cmdB0Origin  : LByte
  cmdB0Poll    : LByte
  axes         : Axes
  /-- `T_STOP`, the duration of the stop pulse; "no rule depends on it" (R5, D15). -/
  tStop        : Nat
deriving DecidableEq, Repr

/-- The constraints "every instantiation of `CFG` must meet" (R5, R93, U13): the calibration bytes pairwise
distinct, the probe and origin constants different, tilt different from full on both main axes. -/
def Cfg.wf (c : Cfg) : Bool :=
  c.cal.distinct && c.cmdB0Probe != c.cmdB0Origin && c.axes.mx.tiltDistinct && c.axes.my.tiltDistinct

/-- The open parameters of one piece of hardware with the constraints of R93 and R137 on them. The field values
after `:=` only show Lean that such a record exists; `Config.openParams` has no body, so nothing can be proved
from them. -/
structure OpenParams where
  cal   : Cal  := ⟨0, 1, 2, 3, 4, 5, 6, 7, 8⟩
  axes  : Axes := ⟨⟨4, 0, 8, 2, 6⟩, ⟨4, 0, 8, 2, 6⟩, ⟨4, 0, 8⟩, ⟨4, 0, 8⟩⟩
  tStop : Nat  := 0
  ok    : (cal.distinct && axes.mx.tiltDistinct && axes.my.tiltDistinct &&
            axes.mx.reduced && axes.my.reduced) = true := by decide
deriving Inhabited

/-- The hardware's calibration bytes, axis constants and stop-pulse length: values the source does not give
(N2, N3, N4). No body: DESIGN CHOICE, log 2. -/
opaque Config.openParams : OpenParams

/-- What the environment drives on the input signals at a moment its script does not reach (R29, R58, U10, U11:
any value). No body: DESIGN CHOICE, log 4. -/
opaque Config.freeInputs : Nat → Inputs

end Sys2Proof
end

