-- ==== Sys2Proof/Syntax.lean ====
section
/-! DEFINITION. The instructions: one constructor per row of spec/opcode_table.json, with the operands the row names
(spec/30_encoding.md R60, R61, R62, R67, R69; spec/40_codec.md R80 to R90; spec/43_socd_passthrough.md R171). -/

namespace Sys2Proof

/-- The 18 rows of spec/opcode_table.json. The six command rows stand for the terminal receive step that
classifies the command; the six decode rows for the receive step that takes the byte; the encode rows of the four
data symbols for the transmit step that writes the byte, the one of `STOP` for a lookup no step makes; `clean` for
the refresh step that runs the cleaner on the six pairs (DESIGN CHOICE, log 6). -/
inductive Instr
  /-- `PROBE` (R107). -/
  | probe
  /-- `PROBEORIGIN` (R108). -/
  | probeOrigin
  /-- `POLL 0` (R110). -/
  | poll0
  /-- `POLL 1` (R111). -/
  | poll1
  /-- `UNKNOWN` by the short path (R109): the symbols 0 to 3. -/
  | unknownShort (b0 : SlotGroup)
  /-- `UNKNOWN` by the long path (R112): the symbols 0 to 3, 4 to 7, 8 to 11 and the discarded symbol 12. -/
  | unknownLong (b0 b1 b2 : SlotGroup) (x : Sym6)
  /-- decode to `S00` (R80): the physical byte taken. -/
  | decodeS00 (p : PByte)
  /-- decode to `S01` (R81). -/
  | decodeS01 (p : PByte)
  /-- decode to `S10` (R82). -/
  | decodeS10 (p : PByte)
  /-- decode to `S11` (R83). -/
  | decodeS11 (p : PByte)
  /-- decode to `STOP` (R84). -/
  | decodeStop (p : PByte)
  /-- decode of any other byte (R85). -/
  | decodeInvalid (p : PByte)
  /-- encode `S00` (R86). -/
  | encodeS00
  /-- encode `S01` (R87). -/
  | encodeS01
  /-- encode `S10` (R88). -/
  | encodeS10
  /-- encode `S11` (R89). -/
  | encodeS11
  /-- encode `STOP` (R90). -/
  | encodeStop
  /-- `clean` (R171), "applied to each of the six pairs of rule R170": the raw snapshot, whose twelve directions are
  the operands `n` and `p` of the six lanes. -/
  | clean (raw : Snapshot)
deriving DecidableEq, Repr

/-- The word an instruction is read from, one form per format of the table: a symbol stream for SHORT and LONG
(R61, R62, R74), one physical byte for a decode row (PHYS, R60), a symbol for an encode row, the snapshot whose
pairs the cleaner gets for PAIR (R170, R171). -/
inductive OpWord
  | stream (ys : List Sym6)
  | phys (p : PByte)
  | sym (s : Sym)
  | snap (raw : Snapshot)
deriving DecidableEq, Repr

/-- Why a symbol stream is no instruction: it ends before the fifth or the thirteenth symbol (R73), or goes on
after the command's last one. -/
inductive DecodeError
  | truncated
  | trailing
deriving DecidableEq, Repr

end Sys2Proof
end

