-- ==== Sys2Proof/Decode.lean ====
section
/-! DEFINITION. The codec, the command constants, the decoder (total; rejects by name) and the encoder
(spec/30_encoding.md R60 to R75; spec/40_codec.md; spec/41_command_receiver.md R106 to R113). -/

namespace Sys2Proof

/-! ### The constants of CFG -/

/-- `CMD_B0_PROBE`'s default: the literal `0000` read as 0x00 (R5, D3; UNVERIFIED, log 3). -/
def cmdB0ProbeDefault : LByte := 0x00
/-- `CMD_B0_ORIGIN`'s default: the literal `0100` read as 0x04 (R5, D3; UNVERIFIED, log 3). -/
def cmdB0OriginDefault : LByte := 0x04
/-- `CMD_B0_POLL`'s default: the same literal (R5, D3; UNVERIFIED, log 3). -/
def cmdB0PollDefault : LByte := 0x04
/-- `CMD_B1_POLL` = 0x0F (R5, conflict C3). -/
def cmdB1Poll : LByte := 0x0F
/-- `CMD_B2_RUMBLE_OFF` (R5). -/
def cmdB2RumbleOff : LByte := 0x00
/-- `CMD_B2_RUMBLE_ON` (R5). -/
def cmdB2RumbleOn : LByte := 0x01
/-- `ID_BYTES`, byte 0 (R5, R63). -/
def idByte0 : LByte := 0x09
/-- `ID_BYTES`, byte 1 (R5, R63). -/
def idByte1 : LByte := 0x00
/-- `ID_BYTES`, byte 2 (R5, R63). -/
def idByte2 : LByte := 0x03

/-- The hardwired `CFG`: the open values of `Config.openParams` and the default byte-0 constants (R5, R22). -/
def hardwired : Cfg where
  cal := Config.openParams.cal
  cmdB0Probe := cmdB0ProbeDefault
  cmdB0Origin := cmdB0OriginDefault
  cmdB0Poll := cmdB0PollDefault
  axes := Config.openParams.axes
  tStop := Config.openParams.tStop

/-! ### Bit pairs and symbols -/

/-- `sym(h, l)` (R94): the symbol of a bit pair, `h` the earlier and more significant. -/
def symOf : Bool → Bool → Sym
  | false, false => .s00
  | false, true  => .s01
  | true,  false => .s10
  | true,  true  => .s11

/-- `bits(s)` (R94): the two bits of a data symbol; `bits(STOP)` and `bits(INVALID)` do not exist. -/
def bitsOf : Sym6 → Option (BitVec 2)
  | .sym .s00 => some 0b00
  | .sym .s01 => some 0b01
  | .sym .s10 => some 0b10
  | .sym .s11 => some 0b11
  | .sym .stop => none
  | .invalid => none

/-- Slot `k` of a logical byte: the symbol of bits `v[7-2k : 6-2k]` (R6, R95; D4, UNVERIFIED, log 15). -/
def symAt (v : LByte) (k : Fin 4) : Sym :=
  match k with
  | 0 => symOf (v.getLsbD 7) (v.getLsbD 6)
  | 1 => symOf (v.getLsbD 5) (v.getLsbD 4)
  | 2 => symOf (v.getLsbD 3) (v.getLsbD 2)
  | 3 => symOf (v.getLsbD 1) (v.getLsbD 0)

/-- `syms(v)` (R95): the four symbols of a logical byte in wire order. -/
def symsOf (v : LByte) : List Sym := [symAt v 0, symAt v 1, symAt v 2, symAt v 3]

/-- The slot group that holds `syms(v)`. -/
def groupOf (v : LByte) : SlotGroup :=
  ⟨.sym (symAt v 0), .sym (symAt v 1), .sym (symAt v 2), .sym (symAt v 3)⟩

/-- The symbols of a group in slot order. -/
def SlotGroup.syms (g : SlotGroup) : List Sym6 := [g.k0, g.k1, g.k2, g.k3]

/-- The value of a received logical byte (R66): the four bit pairs joined, slot 0 most significant; none when a
slot holds `STOP` or `INVALID`. -/
def groupValue (g : SlotGroup) : Option LByte :=
  match bitsOf g.k0, bitsOf g.k1, bitsOf g.k2, bitsOf g.k3 with
  | some b0, some b1, some b2, some b3 => some (b0 ++ b1 ++ b2 ++ b3)
  | _, _, _, _ => none

/-- `G matches c` (R106): `G[k] = syms(c)[k]` for `k = 0..3`. -/
def groupMatches (g : SlotGroup) (c : LByte) : Bool :=
  g.k0 == .sym (symAt c 0) && g.k1 == .sym (symAt c 1) &&
  g.k2 == .sym (symAt c 2) && g.k3 == .sym (symAt c 3)

/-! ### The Bit-Pair Codec -/

/-- `decode(p)` (R80 to R85; `INVALID` is D1, UNVERIFIED, log 13). -/
def decodeByte (k : Cal) (p : PByte) : Sym6 :=
  if p = k.a ∨ p = k.b then .sym .s00
  else if p = k.c ∨ p = k.d then .sym .s01
  else if p = k.e ∨ p = k.f then .sym .s10
  else if p = k.g ∨ p = k.h then .sym .s11
  else if p = k.i then .sym .stop
  else .invalid

/-- `encode(s)` (R86 to R90): one canonical byte per symbol; `INVALID` is not in its domain (R96). The first of the two
encodings is the transmitted one (D2; UNVERIFIED, log 16). -/
def encodeSym (k : Cal) : Sym → PByte
  | .s00 => k.a
  | .s01 => k.c
  | .s10 => k.e
  | .s11 => k.g
  | .stop => k.i

/-! ### Classification -/

/-- `classify_short(S0)` (R107, R108, R109, R113). -/
def classifyShort (c : Cfg) (g0 : SlotGroup) : Cmd :=
  if groupMatches g0 c.cmdB0Probe then .probe
  else if groupMatches g0 c.cmdB0Origin then .probeOrigin
  else .unknown

/-- `classify_long(S0, S1, S2)` (R110, R111, R112, R113). -/
def classifyLong (c : Cfg) (g0 g1 g2 : SlotGroup) : Cmd :=
  if !groupMatches g0 c.cmdB0Poll then .unknown
  else if !groupMatches g1 cmdB1Poll then .unknown
  else if groupMatches g2 cmdB2RumbleOff then .poll false
  else if groupMatches g2 cmdB2RumbleOn then .poll true
  else .unknown

/-! ### The decoder -/

/-- The instruction of a SHORT command whose symbols 0 to 3 are `g0` (R69). -/
def decodeShort (c : Cfg) (g0 : SlotGroup) : Instr :=
  match classifyShort c g0 with
  | .probe => .probe
  | .probeOrigin => .probeOrigin
  | _ => .unknownShort g0

/-- The instruction of a LONG command with the twelve data symbols and the discarded thirteenth (R69, R105). -/
def decodeLong (c : Cfg) (g0 g1 g2 : SlotGroup) (x : Sym6) : Instr :=
  match classifyLong c g0 g1 g2 with
  | .poll false => .poll0
  | .poll true => .poll1
  | _ => .unknownLong g0 g1 g2 x

/-- The first command of a symbol stream and what is left of the stream: five symbols when the one at index 4 is
`STOP`, else thirteen (R69, R73); a shorter stream is rejected. -/
def decodeCommand (c : Cfg) : List Sym6 → Except DecodeError (Instr × List Sym6)
  | y0 :: y1 :: y2 :: y3 :: y4 :: rest =>
    if y4 = .sym .stop then .ok (decodeShort c ⟨y0, y1, y2, y3⟩, rest)
    else match rest with
      | y5 :: y6 :: y7 :: y8 :: y9 :: y10 :: y11 :: y12 :: rest' =>
        .ok (decodeLong c ⟨y0, y1, y2, y3⟩ ⟨y4, y5, y6, y7⟩ ⟨y8, y9, y10, y11⟩ y12, rest')
      | _ => .error .truncated
  | _ => .error .truncated

/-- The first command of a physical byte stream and the bytes left (R60, R69). -/
def decodeBytes (c : Cfg) (ps : List PByte) : Except DecodeError (Instr × List PByte) :=
  match decodeCommand c (ps.map (decodeByte c.cal)) with
  | .ok (i, rest) => .ok (i, ps.drop (ps.length - rest.length))
  | .error e => .error e

/-- The decode row of one received physical byte (R80 to R85). -/
def decodePhys (k : Cal) (p : PByte) : Instr :=
  match decodeByte k p with
  | .sym .s00 => .decodeS00 p
  | .sym .s01 => .decodeS01 p
  | .sym .s10 => .decodeS10 p
  | .sym .s11 => .decodeS11 p
  | .sym .stop => .decodeStop p
  | .invalid => .decodeInvalid p

/-- The encode row of one symbol (R86 to R90). -/
def decodeSymRow : Sym → Instr
  | .s00 => .encodeS00
  | .s01 => .encodeS01
  | .s10 => .encodeS10
  | .s11 => .encodeS11
  | .stop => .encodeStop

/-- The decoder: total on every word; it rejects a symbol stream that is not exactly one command. -/
def decode (c : Cfg) : OpWord → Except DecodeError Instr
  | .stream ys =>
    match decodeCommand c ys with
    | .ok (i, []) => .ok i
    | .ok (_, _ :: _) => .error .trailing
    | .error e => .error e
  | .phys p => .ok (decodePhys c.cal p)
  | .sym s => .ok (decodeSymRow s)
  | .snap raw => .ok (.clean raw)

/-! ### The encoder -/

/-- The word of a well-formed instruction, from R61, R62, R69 and R74 (commands), R60 (decode rows). The
thirteenth symbol of a poll is sent as `STOP` (R62). -/
def encode (c : Cfg) : Instr → OpWord
  | .probe => .stream ((groupOf c.cmdB0Probe).syms ++ [.sym .stop])
  | .probeOrigin => .stream ((groupOf c.cmdB0Origin).syms ++ [.sym .stop])
  | .poll0 => .stream ((groupOf c.cmdB0Poll).syms ++ (groupOf cmdB1Poll).syms ++
      (groupOf cmdB2RumbleOff).syms ++ [.sym .stop])
  | .poll1 => .stream ((groupOf c.cmdB0Poll).syms ++ (groupOf cmdB1Poll).syms ++
      (groupOf cmdB2RumbleOn).syms ++ [.sym .stop])
  | .unknownShort b0 => .stream (b0.syms ++ [.sym .stop])
  | .unknownLong b0 b1 b2 x => .stream (b0.syms ++ b1.syms ++ b2.syms ++ [x])
  | .decodeS00 p => .phys p
  | .decodeS01 p => .phys p
  | .decodeS10 p => .phys p
  | .decodeS11 p => .phys p
  | .decodeStop p => .phys p
  | .decodeInvalid p => .phys p
  | .encodeS00 => .sym .s00
  | .encodeS01 => .sym .s01
  | .encodeS10 => .sym .s10
  | .encodeS11 => .sym .s11
  | .encodeStop => .sym .stop
  | .clean raw => .snap raw

/-! ### The words of spec/opcode_table.json -/

/-- Bits `[hi:lo]` of a table word, eight of them. -/
def tableByte (w lo : Nat) : LByte := BitVec.ofNat 8 (w >>> lo)

/-- The instruction the decoder reads from a table word: 8 bits are byte 0 of a SHORT command, whose fifth symbol is
`STOP`; 24 bits are the three bytes of a LONG command, byte 0 in bits 23..16 as the table's rows number them, whose
thirteenth symbol is `STOP` (DESIGN CHOICE, log 14). The table gives no other row a number. -/
def decodeTableWord (nbits w : Nat) : Option Instr :=
  if nbits = 8 then
    match decode hardwired (.stream ((groupOf (tableByte w 0)).syms ++ [.sym .stop])) with
    | .ok i => some i
    | .error _ => none
  else if nbits = 24 then
    match decode hardwired (.stream ((groupOf (tableByte w 16)).syms ++ (groupOf (tableByte w 8)).syms ++
        (groupOf (tableByte w 0)).syms ++ [.sym .stop])) with
    | .ok i => some i
    | .error _ => none
  else none

end Sys2Proof
end

