-- ==== Sys2Proof/Machine/State.lean ====
section
/-! DEFINITION. The state of the core, its reset value, and the reasons exec and step may stop
(spec/10_state.md R10 to R30; spec/60_exceptions.md R200). The core has no memory (R23, R49). -/

namespace Sys2Proof.Machine

/-- The phase register `PH` (R14): 13 + 1 + 40 + 1 + 1 = 56 values. -/
inductive Phase
  | rx (n : Fin 13)
  | refresh
  | tx (j : Fin 40)
  | drain
  | stopp
deriving DecidableEq, Repr

/-- One event of `TRACE` (R28). -/
inductive Event
  /-- `RxTake -> p`: a physical byte consumed. -/
  | rxTake (p : PByte)
  /-- `InRefresh -> snap`: the 22 states read. -/
  | inRefresh (snap : Snapshot)
  /-- `TxPut(p)`: a physical byte written. -/
  | txPut (p : PByte)
  /-- `StopPulse`. -/
  | stopPulse
deriving DecidableEq, Repr

/-- The three error classes (R200). -/
inductive ErrorClass
  | unknownCmd | undefByte | hang
deriving DecidableEq, Repr

/-- The codes of R200 (D22); they appear on no port. -/
def ErrorClass.code : ErrorClass → Nat
  | .unknownCmd => 1
  | .undefByte => 2
  | .hang => 3

/-- A record of `raise E(info)` (R200). `E_HANG` has no record: it is the absence of an event (R203; Safety.lean's
`HangsIn`). -/
inductive ErrorRecord
  /-- `E_UNKNOWN_CMD` by the short path: "byte 0 alone" (R109, R200). -/
  | unknownCmdShort (b0 : SlotGroup)
  /-- `E_UNKNOWN_CMD` by the long path: the slot registers as they stand (R112, R200). -/
  | unknownCmdLong (b0 b1 b2 : SlotGroup)
  /-- `E_UNDEF_BYTE(p)` (R85, R202). -/
  | undefByte (p : PByte)
deriving DecidableEq, Repr

/-- The class of a record (R200). -/
def ErrorRecord.errorClass : ErrorRecord → ErrorClass
  | .unknownCmdShort _ => .unknownCmd
  | .unknownCmdLong _ _ _ => .unknownCmd
  | .undefByte _ => .undefByte

/-- Everything the spec gives the machine, as plain data. -/
structure State where
  /-- `CFG`, hardwired (R5, R22): no step writes it (DESIGN CHOICE, log 1). -/
  cfg        : Cfg
  /-- `PH` (R14). -/
  ph         : Phase
  /-- `RXEN` (R16); the output `rx_enable` is its value (R25). -/
  rxen       : Bool
  /-- `SLOT0[0..3]` (R10). -/
  slot0      : SlotGroup
  /-- `SLOT1[0..3]` (R10). -/
  slot1      : SlotGroup
  /-- `SLOT2[0..3]` (R10). -/
  slot2      : SlotGroup
  /-- `CMD` (R11). -/
  cmd        : Cmd
  /-- `FRAME[0..9]` (R12). -/
  frame      : Vector LByte 10
  /-- `FLEN` (R12). -/
  flen       : FrameLen
  /-- `RAW[0..21]` (R18). -/
  raw        : Snapshot
  /-- `PROC[0..21]` (R19). -/
  proc       : Snapshot
  /-- Output `rx_take` (R25): active while a byte is consumed. -/
  rxTake     : Bool
  /-- Output `tx_write` (R25): active while `tx_data` is handed over. -/
  txWrite    : Bool
  /-- Output `tx_data` (R25): the byte handed over last (between two transfers a DESIGN CHOICE, log 27). -/
  txData     : PByte
  /-- Output `stop_assert` (R26): active during `StopPulse()`. -/
  stopAssert : Bool
  /-- Output `in_id` (R27): the identifier presented last (between two refreshes a DESIGN CHOICE, log 12). -/
  inId       : BitVec 5
  /-- The input signals of the ports as the environment drives them now (R16, R25, R27). -/
  inputs     : Inputs
  /-- The model's own: what the environment will drive after this step, the next step, ... (R29; DESIGN CHOICE, log 4). -/
  upcoming   : List Inputs
  /-- The model's own: the counter the free inputs are drawn by once the script ends (DESIGN CHOICE, log 4). -/
  tick       : Nat
  /-- `TRACE` (R28), oldest event first: the model's record, read by no rule. -/
  trace      : List Event
  /-- The log of raised errors (R200), oldest first: the model's record, read by no rule. -/
  errors     : List ErrorRecord
  /-- The model's own: the byte `encode` gave last (R86 to R90); read by no rule (DESIGN CHOICE, log 7). -/
  encOut     : PByte
deriving DecidableEq, Repr

/-- Why exec stops. `step` selects only operations that raise none (DESIGN CHOICE, log 9). -/
inductive Fault
  /-- Raised by every meaning but the encode of `STOP`: the operation is asked for in a phase that does not perform
  it, against the precondition of `RxTake` or `TxPut` (R47, R48) or of the refresh step (R132). Safe. -/
  | outOfPhase
  /-- Raised by the decode rows: the operand byte is not an encoding of the row's symbol under `CFG`, so it "must not"
  be taken for it (R85). Safe. -/
  | illFormed
deriving DecidableEq, Repr

/-- Why exec or step has no meaning. -/
inductive Refusal
  /-- An instruction with no meaning yet, by its mnemonic. Safe. No arm of exec answers it. -/
  | notModelled (mnemonic : String)
  /-- Raised by step: `CFG` violates its constraints; a model "refuses a `CFG` that fails it" (R5, R93, U13). Safe. -/
  | configuration
deriving DecidableEq, Repr

/-- The input signals while the collaborators are "initialised and idle" (R30, R231): no byte received, the
transmitter free and drained (DESIGN CHOICE, log 5). -/
def idleInputs : Inputs where
  rxReady := false
  rxData := 0
  txReady := true
  txComplete := true
  buttons := Snapshot.neutral

/-- A slot group of `S00`, the value the model names for slot registers at reset (DESIGN CHOICE, log 5). -/
def zeroGroup : SlotGroup := ⟨.sym .s00, .sym .s00, .sym .s00, .sym .s00⟩

/-- The machine right after reset (R30, R230): `PH = RX(0)`, `RXEN = 1`, port outputs inactive, `TRACE` empty, `CFG`
its hardwired value. The data registers, of which R30 says "no value", hold the values of DESIGN CHOICE, log 5. -/
def State.reset : State where
  cfg := hardwired
  ph := .rx 0
  rxen := true
  slot0 := zeroGroup
  slot1 := zeroGroup
  slot2 := zeroGroup
  cmd := .unknown
  frame := Vector.replicate 10 0
  flen := .id3
  raw := Snapshot.neutral
  proc := Snapshot.neutral
  rxTake := false
  txWrite := false
  txData := 0
  stopAssert := false
  inId := 0
  inputs := idleInputs
  upcoming := []
  tick := 0
  trace := []
  errors := []
  encOut := 0

end Sys2Proof.Machine
end

