-- ==== Sys2Proof/Machine/Flags.lean ====
section
/-! DEFINITION. The core's one flag, `RXEN`, and the three conditions it reads and does not own (spec/10_state.md R16;
spec/60_exceptions.md R206). No command writes another flag (R16). -/

namespace Sys2Proof.Machine

/-- `rx_ready` (R16): a received byte is available "and `RXEN = 1`" (DEDUCED, log 24). -/
def rxReady (s : State) : Bool := s.inputs.rxReady && s.rxen

/-- `tx_ready` (R16): the Transceiver can accept a byte. -/
def txReady (s : State) : Bool := s.inputs.txReady

/-- `tx_complete` (R16): "last transmission fully drained". -/
def txComplete (s : State) : Bool := s.inputs.txComplete

/-- The output `rx_enable` is "the value of `RXEN`" (R25). -/
def rxEnable (s : State) : Bool := s.rxen

/-- `RXEN <- 0`: the core enters `TX(0)` (R16, R130, R132; D12, UNVERIFIED, log 17). -/
def disableReceiver (s : State) : State := { s with rxen := false }

/-- `RXEN <- 1`: the core leaves `STOPP` (R16, R148; D12, UNVERIFIED, log 17). -/
def enableReceiver (s : State) : State := { s with rxen := true }

end Sys2Proof.Machine
end

