-- ==== Sys2Proof/Machine/Operands.lean ====
section
/-! DEFINITION. The operands of the steps: slot groups, snapshots, the SOCD cleaner and passthrough, and the bytes of
the state frame (spec/43_socd_passthrough.md; spec/42_response_transmitter.md R133 to R140). -/

namespace Sys2Proof.Machine

/-! ### Slots -/

/-- The group with slot `k` holding `y` (R10). -/
def putSlot (g : SlotGroup) (k : Nat) (y : Sym6) : SlotGroup :=
  match k with
  | 0 => { g with k0 := y }
  | 1 => { g with k1 := y }
  | 2 => { g with k2 := y }
  | 3 => { g with k3 := y }
  | _ => g

/-! ### Snapshots -/

/-- The state of an identifier in a snapshot. -/
def buttonOf (m : Snapshot) : ButtonId → ButtonState
  | .a => m.a
  | .b => m.b
  | .x => m.x
  | .y => m.y
  | .l => m.l
  | .r => m.r
  | .z => m.z
  | .start => m.start
  | .dpadUp => m.dpadUp
  | .dpadDown => m.dpadDown
  | .dpadLeft => m.dpadLeft
  | .dpadRight => m.dpadRight
  | .msUp => m.msUp
  | .msDown => m.msDown
  | .msLeft => m.msLeft
  | .msRight => m.msRight
  | .csUp => m.csUp
  | .csDown => m.csDown
  | .csLeft => m.csLeft
  | .csRight => m.csRight
  | .macroBtn => m.macroBtn
  | .tilt => m.tilt

/-- The index of an identifier, used on the Input Reader port only (R17, D6; UNVERIFIED, log 15). -/
def buttonIndex : ButtonId → BitVec 5
  | .a => 0
  | .b => 1
  | .x => 2
  | .y => 3
  | .l => 4
  | .r => 5
  | .z => 6
  | .start => 7
  | .dpadUp => 8
  | .dpadDown => 9
  | .dpadLeft => 10
  | .dpadRight => 11
  | .msUp => 12
  | .msDown => 13
  | .msLeft => 14
  | .msRight => 15
  | .csUp => 16
  | .csDown => 17
  | .csLeft => 18
  | .csRight => 19
  | .macroBtn => 20
  | .tilt => 21

/-! ### The SOCD cleaner and the passthrough -/

/-- `clean(n, p)` (R171): "clean to neutral". -/
def clean (n p : ButtonState) : ButtonState × ButtonState :=
  match n, p with
  | .pushed, .pushed => (.released, .released)
  | n, p => (n, p)

/-- The six pairs `(negative, positive)` (R170), pair 0 first. -/
def socdPairs : List (ButtonId × ButtonId) :=
  [(.dpadLeft, .dpadRight), (.dpadDown, .dpadUp), (.msLeft, .msRight),
   (.msDown, .msUp), (.csLeft, .csRight), (.csDown, .csUp)]

/-- `process(RAW)` (R172, R175, R176): each pair of R170 cleaned in its own lane, the ten other identifiers unchanged. -/
def process (raw : Snapshot) : Snapshot where
  a := raw.a
  b := raw.b
  x := raw.x
  y := raw.y
  l := raw.l
  r := raw.r
  z := raw.z
  start := raw.start
  dpadLeft := (clean raw.dpadLeft raw.dpadRight).1
  dpadRight := (clean raw.dpadLeft raw.dpadRight).2
  dpadDown := (clean raw.dpadDown raw.dpadUp).1
  dpadUp := (clean raw.dpadDown raw.dpadUp).2
  msLeft := (clean raw.msLeft raw.msRight).1
  msRight := (clean raw.msLeft raw.msRight).2
  msDown := (clean raw.msDown raw.msUp).1
  msUp := (clean raw.msDown raw.msUp).2
  csLeft := (clean raw.csLeft raw.csRight).1
  csRight := (clean raw.csLeft raw.csRight).2
  csDown := (clean raw.csDown raw.csUp).1
  csUp := (clean raw.csDown raw.csUp).2
  macroBtn := raw.macroBtn
  tilt := raw.tilt

/-! ### The bytes of the state frame -/

/-- `b(id)` (R134): 1 when pushed, else 0 (D5; UNVERIFIED, log 15). -/
def buttonBit : ButtonState → BitVec 1
  | .released => 0
  | .pushed => 1

/-- Frame byte 0 (R134): `[0,0,0,START,Y,X,B,A]`. -/
def frameByte0 (m : Snapshot) : LByte :=
  (0 : BitVec 3) ++ buttonBit m.start ++ buttonBit m.y ++ buttonBit m.x ++ buttonBit m.b ++ buttonBit m.a

/-- Frame byte 1 (R135): `[1,L,R,Z,D-pad-up,D-pad-down,D-pad-left,D-pad-right]`. -/
def frameByte1 (m : Snapshot) : LByte :=
  (1 : BitVec 1) ++ buttonBit m.l ++ buttonBit m.r ++ buttonBit m.z ++
    buttonBit m.dpadUp ++ buttonBit m.dpadDown ++ buttonBit m.dpadLeft ++ buttonBit m.dpadRight

/-- `AX` on a main-stick axis (R136; its last case D9, UNVERIFIED, log 26). -/
def axMain (a : MainAxis) (neg pos tilt : ButtonState) : LByte :=
  match neg, pos with
  | .released, .released => a.center
  | .pushed, .released => if tilt = .pushed then a.tiltNeg else a.fullNeg
  | .released, .pushed => if tilt = .pushed then a.tiltPos else a.fullPos
  | .pushed, .pushed => a.center

/-- `AX` on a C-stick axis, where `tilt` is always `Released` (R136, R139). -/
def axC (a : CAxis) (neg pos : ButtonState) : LByte :=
  match neg, pos with
  | .released, .released => a.center
  | .pushed, .released => a.fullNeg
  | .released, .pushed => a.fullPos
  | .pushed, .pushed => a.center

/-- `FRAME[0..7] <- build(PROC)` (R134 to R140); the two bytes above stay as they were
(DEDUCED, log 25). -/
def stateFrame (x : Axes) (m : Snapshot) (old : Vector LByte 10) : Vector LByte 10 :=
  #v[frameByte0 m,
     frameByte1 m,
     axMain x.mx m.msLeft m.msRight m.tilt,
     axMain x.my m.msDown m.msUp m.tilt,
     axC x.cx m.csLeft m.csRight,
     axC x.cy m.csDown m.csUp,
     0,
     0,
     old[8],
     old[9]]

/-- `FRAME[0..2] <- ID_BYTES` (R131); the other bytes stay as they were (DEDUCED, log 25). -/
def idFrame (old : Vector LByte 10) : Vector LByte 10 :=
  #v[idByte0, idByte1, idByte2, old[3], old[4], old[5], old[6], old[7], old[8], old[9]]

/-- `FRAME[8] <- 0x00; FRAME[9] <- 0x00` (R142). -/
def originTail (f : Vector LByte 10) : Vector LByte 10 :=
  #v[f[0], f[1], f[2], f[3], f[4], f[5], f[6], f[7], 0, 0]

/-- The symbol behind `TXB(j)` (R145): `syms(FRAME[j div 4])[j mod 4]`. -/
def txSym (f : Vector LByte 10) (j : Fin 40) : Sym :=
  symAt (f[j.val / 4]'(by omega)) ⟨j.val % 4, by omega⟩

/-- `TXB(j)` (R145): physical byte `j` of the response. -/
def txByte (k : Cal) (f : Vector LByte 10) (j : Fin 40) : PByte :=
  encodeSym k (txSym f j)

end Sys2Proof.Machine
end

