-- ==== Sys2Proof/Machine/Ops.lean ====
section
/-! DEFINITION. The operations the meanings share: the port primitives, raising an error, dispatch, the receive,
terminal, refresh and transmit steps, the steps no instruction stands for, and the selection of the next
instruction (spec/20_memory.md R46 to R56; spec/41_command_receiver.md; spec/42_response_transmitter.md). -/

namespace Sys2Proof.Machine

/-! ### Register writes -/

/-- `PH <- p` (R14). -/
def goto (p : Phase) (s : State) : State := { s with ph := p }

/-- `CMD <- c` (R11). -/
def setCmd (c : Cmd) (s : State) : State := { s with cmd := c }

/-- The frame and its length, written as a whole (R12). -/
def setFrame (f : Vector LByte 10) (n : FrameLen) (s : State) : State := { s with frame := f, flen := n }

/-- `RAW` and `PROC`, written in the same step (R18, R19). -/
def setSnapshots (raw proc : Snapshot) (s : State) : State := { s with raw := raw, proc := proc }

/-- The slot write of receive step `n` (R101 to R104); the thirteenth symbol is not stored (R105;
UNVERIFIED, log 19). -/
def storeSymbol (n : Fin 13) (y : Sym6) (s : State) : State :=
  if n.val < 4 then { s with slot0 := putSlot s.slot0 n.val y }
  else if n.val < 8 then { s with slot1 := putSlot s.slot1 (n.val - 4) y }
  else if n.val < 12 then { s with slot2 := putSlot s.slot2 (n.val - 8) y }
  else s

/-! ### Records -/

/-- An event appended to `TRACE` (R28). -/
def emit (e : Event) (s : State) : State := { s with trace := s.trace ++ [e] }

/-- `raise E(info)` (R8, R200): recorded; it "never transfers control by itself" (DESIGN CHOICE, log 21). -/
def raiseError (r : ErrorRecord) (s : State) : State := { s with errors := s.errors ++ [r] }

/-- The error a classification raises, if any. -/
def raiseOpt (r : Option ErrorRecord) (s : State) : State :=
  match r with
  | some r => raiseError r s
  | none => s

/-! ### Port primitives -/

/-- `RxTake()` once `rx_ready` holds (R47): `rx_take` is pulsed, the byte is consumed, so `rx_ready` falls (R16).
The strobes of the three primitives are raised and lowered inside the step (DESIGN CHOICE, log 11). -/
def rxTakeByte (p : PByte) (s : State) : State :=
  let s1 := emit (.rxTake p) { s with rxTake := true }
  { s1 with rxTake := false, inputs := { s1.inputs with rxReady := false } }

/-- `TxPut(p)` once `tx_ready` holds (R48): `tx_data` is driven and `tx_write` pulsed. Between two
transfers `tx_data` keeps the byte handed over last, of which R25 says nothing (DESIGN CHOICE, log 27). -/
def txPutByte (p : PByte) (s : State) : State :=
  let s1 := emit (.txPut p) { s with txData := p, txWrite := true }
  { s1 with txWrite := false }

/-- `StopPulse()` (R56): `stop_assert` is held active and released before the step ends. -/
def stopPulse (s : State) : State :=
  let s1 := emit .stopPulse { s with stopAssert := true }
  { s1 with stopAssert := false }

/-- The 22 `InRead(id)` of a refresh (R55, R132): identifiers presented in index order, one `InRefresh` event;
`in_id` keeps the last (DESIGN CHOICE, log 12). -/
def readInputs (raw : Snapshot) (s : State) : State :=
  emit (.inRefresh raw) { s with inId := buttonIndex .tilt }

/-- Symbol acquisition once `rx_ready` holds (R100): the byte is taken and `E_UNDEF_BYTE` recorded when it decodes to
`INVALID` (R85, R202; UNVERIFIED, log 13). -/
def acquire (p : PByte) (s : State) : State :=
  if decodeByte s.cfg.cal p = .invalid then raiseError (.undefByte p) (rxTakeByte p s) else rxTakeByte p s

/-! ### Dispatch and the end of a parse -/

/-- `dispatch(CMD)` (R130): the response is selected; for `Unknown` there is none (R144, R208; UNVERIFIED, log 20). -/
def dispatch (c : Cmd) (s : State) : State :=
  match c with
  | .probe => goto (.tx 0) (disableReceiver (setFrame (idFrame s.frame) .id3 s))
  | .probeOrigin => goto .refresh s
  | .poll _ => goto .refresh s
  | .unknown => goto (.rx 0) s

/-- The end of a parse (R102, R105, R117): `CMD` written once, the error of an `Unknown` recorded, dispatch. This is
also the whole "entry" of `E_UNKNOWN_CMD` (R208): nothing is saved, control goes to `RX(0)`. -/
def conclude (c : Cmd) (err : Option ErrorRecord) (s : State) : State :=
  dispatch c (raiseOpt err (setCmd c s))

/-- The error the short path raises (R109). -/
def shortError (c : Cmd) (b0 : SlotGroup) : Option ErrorRecord :=
  if c = .unknown then some (.unknownCmdShort b0) else none

/-- The error the long path raises (R112). -/
def longError (c : Cmd) (b0 b1 b2 : SlotGroup) : Option ErrorRecord :=
  if c = .unknown then some (.unknownCmdLong b0 b1 b2) else none

/-- `CMD <- classify_short(SLOT0); dispatch(CMD)` (R102). -/
def concludeShort (s : State) : State :=
  let c := classifyShort s.cfg s.slot0
  conclude c (shortError c s.slot0) s

/-- `CMD <- classify_long(SLOT0, SLOT1, SLOT2); dispatch(CMD)` (R105). -/
def concludeLong (s : State) : State :=
  let c := classifyLong s.cfg s.slot0 s.slot1 s.slot2
  conclude c (longError c s.slot0 s.slot1 s.slot2) s

/-! ### Receive steps -/

/-- What follows the slot write of receive step `n` (R101 to R105): `RX(4)` ends a short command on `STOP`, `RX(12)`
ends a long one, every other step goes on to `RX(n+1)`. -/
def afterSymbol (n : Fin 13) (y : Sym6) (s : State) : State :=
  if n.val = 4 ∧ y = .sym .stop then concludeShort s
  else if h : n.val = 12 then concludeLong s
  else goto (.rx ⟨n.val + 1, by omega⟩) s

/-- The receive step that takes physical byte `p` and reads it as `y` (R100 to R105). While `rx_ready` does not hold
the core waits: nothing changes (R116, R203). -/
def receive (y : Sym6) (p : PByte) (s : State) : Host.Outcome State Fault Refusal :=
  match s.ph with
  | .rx n =>
    if rxReady s then .next (afterSymbol n y (storeSymbol n y (acquire p s)))
    else .next s
  | _ => .fault .outOfPhase

/-- The receive step of the decode row of `y`: its operand must be an encoding of `y` (R80 to R85). -/
def receiveAs (y : Sym6) (p : PByte) (s : State) : Host.Outcome State Fault Refusal :=
  if decodeByte s.cfg.cal p = y then receive y p s else .fault .illFormed

/-- The terminal receive step of a command that ends at symbol `n`, 4 or 12 (R102, R105): the pending byte is taken and
stored, then the command is `c`. While `rx_ready` does not hold the core waits. -/
def terminal (n : Fin 13) (c : Cmd) (err : Option ErrorRecord) (s : State) : Host.Outcome State Fault Refusal :=
  if s.ph = .rx n then
    if rxReady s then
      .next (conclude c err
        (storeSymbol n (decodeByte s.cfg.cal s.inputs.rxData) (acquire s.inputs.rxData s)))
    else .next s
  else .fault .outOfPhase

/-! ### The refresh step -/

/-- `FRAME` and `FLEN` after a refresh (R132, R141, R142): ten bytes for `ProbeOrigin`, eight otherwise. -/
def buildFrame (s : State) : State :=
  if s.cmd = .probeOrigin then
    setFrame (originTail (stateFrame s.cfg.axes s.proc s.frame)) .origin10 s
  else setFrame (stateFrame s.cfg.axes s.proc s.frame) .state8 s

/-- The refresh step (R132): always enabled in `REFRESH` (UNVERIFIED, log 18). -/
def refresh (raw : Snapshot) (s : State) : Host.Outcome State Fault Refusal :=
  match s.ph with
  | .refresh =>
    .next (goto (.tx 0) (disableReceiver (buildFrame (setSnapshots raw (process raw) (readInputs raw s)))))
  | _ => .fault .outOfPhase

/-! ### Transmit, drain and stop steps -/

/-- `encode(y)`: the codec's lookup (R86 to R90, R91), its result kept in the model's record. -/
def encodeLookup (y : Sym) (s : State) : State := { s with encOut := encodeSym s.cfg.cal y }

/-- `if j + 1 < 4*FLEN then PH <- TX(j+1) else PH <- DRAIN` (R146). -/
def afterPut (j : Fin 40) (s : State) : State :=
  if h : j.val + 1 < 4 * s.flen.toNat then
    goto (.tx ⟨j.val + 1, by
      have : s.flen.toNat ≤ 10 := by cases s.flen <;> decide
      omega⟩) s
  else goto .drain s

/-- The transmit step that sends symbol `y` (R145, R146). While `tx_ready` does not hold the core waits. -/
def transmit (y : Sym) (s : State) : Host.Outcome State Fault Refusal :=
  match s.ph with
  | .tx j =>
    if txReady s then .next (afterPut j (txPutByte (encodeSym s.cfg.cal y) (encodeLookup y s)))
    else .next s
  | _ => .fault .outOfPhase

/-- The drain step (R147): to `STOPP` once `tx_complete` holds; it writes nothing else. -/
def drain (s : State) : State := if txComplete s then goto .stopp s else s

/-- The stop step (R148): the pulse, then `RXEN <- 1` and `PH <- RX(0)`. -/
def stopStep (s : State) : State := goto (.rx 0) (enableReceiver (stopPulse s))

/-- What the core does in a step that runs no instruction: drain, stop, or a wait for a condition that does not
hold, which changes nothing (R203; DESIGN CHOICE, log 8). -/
def portStep (s : State) : State :=
  match s.ph with
  | .drain => drain s
  | .stopp => stopStep s
  | .rx _ => s
  | .refresh => s
  | .tx _ => s

/-! ### Selecting the next instruction, and the environment -/

/-- The instruction of a receive step that takes the pending byte: the command when the step is terminal (the fifth
symbol is `STOP`, or the symbol is the thirteenth), else the decode row of the byte (R69, R101 to R105). -/
def receiveInstr (n : Fin 13) (s : State) : Instr :=
  let p := s.inputs.rxData
  let y := decodeByte s.cfg.cal p
  if n.val = 4 ∧ y = .sym .stop then decodeShort s.cfg s.slot0
  else if n.val = 12 then decodeLong s.cfg s.slot0 s.slot1 s.slot2 y
  else decodePhys s.cfg.cal p

/-- The instruction the next step runs: none in `DRAIN` and `STOPP` and while the condition waited on does not hold. -/
def fetch (s : State) : Option Instr :=
  match s.ph with
  | .rx n => if rxReady s then some (receiveInstr n s) else none
  | .refresh => some (.clean s.inputs.buttons)
  | .tx j => if txReady s then some (decodeSymRow (txSym s.frame j)) else none
  | .drain => none
  | .stopp => none

/-- The environment moves on (R29): it drives the next inputs of its script, or any values once the script ends. -/
def advance (s : State) : State :=
  match s.upcoming with
  | e :: es => { s with inputs := e, upcoming := es, tick := s.tick + 1 }
  | [] => { s with inputs := Config.freeInputs s.tick, tick := s.tick + 1 }

end Sys2Proof.Machine
end

