-- ==== Sys2Proof/Machine/Cleaner.lean ====
section
/-! DEFINITION. The cleaner's row: the refresh step, in which the six pairs are cleaned
(spec/43_socd_passthrough.md R171, R172; spec/42_response_transmitter.md R132). -/

namespace Sys2Proof.Machine

/-- `clean` (R171) applied to the six pairs of the raw snapshot just read, inside the step that reads it (R132). -/
def execClean (raw : Snapshot) (s : State) : Host.Outcome State Fault Refusal := refresh raw s

end Sys2Proof.Machine
end

