-- ==== Sys2Proof/Machine/Codec.lean ====
section
/-! DEFINITION. The eleven codec rows: a decode row is the receive step that takes its byte (spec/40_codec.md R80 to R85,
spec/41_command_receiver.md R100 to R105), an encode row the transmit step that writes its byte (R86 to R89,
spec/42_response_transmitter.md R146); the encode of `STOP` is a lookup and no transmission (R90, R97). -/

namespace Sys2Proof.Machine

/-- decode to `S00` (R80). -/
def execDecodeS00 (p : PByte) (s : State) : Host.Outcome State Fault Refusal := receiveAs (.sym .s00) p s

/-- decode to `S01` (R81). -/
def execDecodeS01 (p : PByte) (s : State) : Host.Outcome State Fault Refusal := receiveAs (.sym .s01) p s

/-- decode to `S10` (R82). -/
def execDecodeS10 (p : PByte) (s : State) : Host.Outcome State Fault Refusal := receiveAs (.sym .s10) p s

/-- decode to `S11` (R83). -/
def execDecodeS11 (p : PByte) (s : State) : Host.Outcome State Fault Refusal := receiveAs (.sym .s11) p s

/-- decode to `STOP` (R84). -/
def execDecodeStop (p : PByte) (s : State) : Host.Outcome State Fault Refusal := receiveAs (.sym .stop) p s

/-- decode of any other byte to `INVALID`, with `E_UNDEF_BYTE(p)` recorded (R85). -/
def execDecodeInvalid (p : PByte) (s : State) : Host.Outcome State Fault Refusal := receiveAs .invalid p s

/-- encode `S00` (R86): `CAL.A` is transmitted. -/
def execEncodeS00 (s : State) : Host.Outcome State Fault Refusal := transmit .s00 s

/-- encode `S01` (R87): `CAL.C` is transmitted. -/
def execEncodeS01 (s : State) : Host.Outcome State Fault Refusal := transmit .s01 s

/-- encode `S10` (R88): `CAL.E` is transmitted. -/
def execEncodeS10 (s : State) : Host.Outcome State Fault Refusal := transmit .s10 s

/-- encode `S11` (R89): `CAL.G` is transmitted. -/
def execEncodeS11 (s : State) : Host.Outcome State Fault Refusal := transmit .s11 s

/-- encode `STOP` (R90): the codec gives `CAL.I`; "the transmit path never uses it", so no port operation happens (R97). -/
def execEncodeStop (s : State) : Host.Outcome State Fault Refusal := .next (encodeLookup .stop s)

end Sys2Proof.Machine
end

