-- ==== Sys2Proof/Machine/Commands.lean ====
section
/-! DEFINITION. The six command rows: each is the terminal receive step in which its command is recognised
(spec/41_command_receiver.md R107 to R112). Operands are taken as given (DESIGN CHOICE, log 23). -/

namespace Sys2Proof.Machine

/-- `PROBE` (R107): `CMD <- Probe`; response ID3 (R131). -/
def execProbe (s : State) : Host.Outcome State Fault Refusal := terminal 4 .probe none s

/-- `PROBEORIGIN` (R108): `CMD <- ProbeOrigin`; response ORIGIN10 (R142). -/
def execProbeOrigin (s : State) : Host.Outcome State Fault Refusal := terminal 4 .probeOrigin none s

/-- `POLL 0` (R110): `CMD <- Poll(false)`; response STATE8 (R141). -/
def execPoll0 (s : State) : Host.Outcome State Fault Refusal := terminal 12 (.poll false) none s

/-- `POLL 1` (R111): `CMD <- Poll(true)`; the response is that of `POLL 0` (R143). -/
def execPoll1 (s : State) : Host.Outcome State Fault Refusal := terminal 12 (.poll true) none s

/-- `UNKNOWN` by the short path (R109): `CMD <- Unknown`, `E_UNKNOWN_CMD` recorded, no response (R144). -/
def execUnknownShort (b0 : SlotGroup) (s : State) : Host.Outcome State Fault Refusal :=
  terminal 4 .unknown (some (.unknownCmdShort b0)) s

/-- `UNKNOWN` by the long path (R112): as by the short path; the thirteenth symbol is discarded (R105). -/
def execUnknownLong (b0 b1 b2 : SlotGroup) (_x : Sym6) (s : State) : Host.Outcome State Fault Refusal :=
  terminal 12 .unknown (some (.unknownCmdLong b0 b1 b2)) s

end Sys2Proof.Machine
end

