-- ==== Sys2Proof/Machine/Dispatch.lean ====
section
/-! DEFINITION. One arm per row of spec/opcode_table.json. -/

namespace Sys2Proof.Machine

def exec (i : Instr) (s : State) : Host.Outcome State Fault Refusal :=
  match i with
  -- commands
  | .probe => Sys2Proof.Machine.execProbe s
  | .probeOrigin => Sys2Proof.Machine.execProbeOrigin s
  | .poll0 => Sys2Proof.Machine.execPoll0 s
  | .poll1 => Sys2Proof.Machine.execPoll1 s
  | .unknownShort b0 => Sys2Proof.Machine.execUnknownShort b0 s
  | .unknownLong b0 b1 b2 x => Sys2Proof.Machine.execUnknownLong b0 b1 b2 x s
  -- codec
  | .decodeS00 p => Sys2Proof.Machine.execDecodeS00 p s
  | .decodeS01 p => Sys2Proof.Machine.execDecodeS01 p s
  | .decodeS10 p => Sys2Proof.Machine.execDecodeS10 p s
  | .decodeS11 p => Sys2Proof.Machine.execDecodeS11 p s
  | .decodeStop p => Sys2Proof.Machine.execDecodeStop p s
  | .decodeInvalid p => Sys2Proof.Machine.execDecodeInvalid p s
  | .encodeS00 => Sys2Proof.Machine.execEncodeS00 s
  | .encodeS01 => Sys2Proof.Machine.execEncodeS01 s
  | .encodeS10 => Sys2Proof.Machine.execEncodeS10 s
  | .encodeS11 => Sys2Proof.Machine.execEncodeS11 s
  | .encodeStop => Sys2Proof.Machine.execEncodeStop s
  -- the SOCD cleaner
  | .clean raw => Sys2Proof.Machine.execClean raw s

end Sys2Proof.Machine
end

