-- ==== Sys2Proof/Machine/Step.lean ====
section
/-! DEFINITION. One step of the core (spec/10_state.md R14, R29), and how an instruction is placed so that the next
step runs it. -/

namespace Sys2Proof.Machine

/-- After the core's own effect the environment moves on. -/
def thenAdvance : Host.Outcome State Fault Refusal → Host.Outcome State Fault Refusal
  | .next s => .next (advance s)
  | .fault r => .fault r
  | .refused r => .refused r

/-- One step: the selected instruction, or the drain, stop or waiting step; a `CFG` that violates its constraints is
refused (R93, U13; DEDUCED, log 10). -/
def step (s : State) : Host.Outcome State Fault Refusal :=
  if s.cfg.wf then
    match fetch s with
    | some i => thenAdvance (exec i s)
    | none => .next (advance (portStep s))
  else .refused .configuration

/-- The input signals with `STOP`'s byte received and waiting. -/
def stopPending (s : State) : Inputs := { s.inputs with rxReady := true, rxData := s.cfg.cal.i }

/-- `s` just before the last symbol, `STOP`, of the command whose byte or bytes are the table word `w` (numbered as
spec/opcode_table.json numbers them): the core has received the other symbols of the command and the next step takes
the last one and runs the command (DESIGN CHOICE, log 14). -/
def State.withFetchWord (s : State) (nbits w : Nat) : State :=
  if nbits = 8 then
    { s with ph := .rx 4, rxen := true, slot0 := groupOf (tableByte w 0), inputs := stopPending s }
  else if nbits = 24 then
    { s with ph := .rx 12, rxen := true, slot0 := groupOf (tableByte w 16), slot1 := groupOf (tableByte w 8),
             slot2 := groupOf (tableByte w 0), inputs := stopPending s }
  else s

end Sys2Proof.Machine
end

