-- ==== Sys2Proof/WellFormed.lean ====
section
/-! DEFINITION. When the operands of an instruction are those its row admits: the byte of a decode row is one of the
row's legal encodings, and an UNKNOWN pattern is none of the defined commands. -/

namespace Sys2Proof

/-- `i` is an instruction of the table under `c`: R80 to R85 for the decode rows, R109 and R112 for the two UNKNOWN
rows (symbol 4 of a long pattern is not `STOP`, R73). The other rows have no operand to check. -/
def Instr.wf (c : Cfg) : Instr → Bool
  | .probe => true
  | .probeOrigin => true
  | .poll0 => true
  | .poll1 => true
  | .unknownShort b0 => !groupMatches b0 c.cmdB0Probe && !groupMatches b0 c.cmdB0Origin
  | .unknownLong b0 b1 b2 _ =>
    b1.k0 != .sym .stop &&
    !(groupMatches b0 c.cmdB0Poll && groupMatches b1 cmdB1Poll &&
      (groupMatches b2 cmdB2RumbleOff || groupMatches b2 cmdB2RumbleOn))
  | .decodeS00 p => p == c.cal.a || p == c.cal.b
  | .decodeS01 p => p == c.cal.c || p == c.cal.d
  | .decodeS10 p => p == c.cal.e || p == c.cal.f
  | .decodeS11 p => p == c.cal.g || p == c.cal.h
  | .decodeStop p => p == c.cal.i
  | .decodeInvalid p => !c.cal.bytes.contains p
  | .encodeS00 => true
  | .encodeS01 => true
  | .encodeS10 => true
  | .encodeS11 => true
  | .encodeStop => true
  | .clean _ => true

end Sys2Proof
end

