-- ==== Sys2Proof/Safety.lean ====
section
/-! DEFINITION. The words claims are stated in: the machine's invariant, runs, the environment's script, and the third
error class, which is a wait without end. -/

namespace Sys2Proof.Machine

/-! ### Runs -/

/-- What follows a step that answers a next state. -/
def andThen (o : Host.Outcome State Fault Refusal) (f : State → Host.Outcome State Fault Refusal) :
    Host.Outcome State Fault Refusal :=
  match o with
  | .next t => f t
  | .fault r => .fault r
  | .refused r => .refused r

/-- `k` steps of the core, stopping at the first fault or refusal. -/
def run : Nat → State → Host.Outcome State Fault Refusal
  | 0, s => .next s
  | k + 1, s => andThen (step s) (run k)

/-- What the environment drives `k` steps from now (R29). -/
def inputAt (s : State) : Nat → Inputs
  | 0 => s.inputs
  | k + 1 => inputAt (advance s) k

/-! ### The invariant -/

/-- The phases in which the receiver is enabled (R16): every `RX(n)` and `REFRESH`. -/
def receiverPhase : Phase → Bool
  | .rx _ => true
  | .refresh => true
  | .tx _ => false
  | .drain => false
  | .stopp => false

/-- No transfer and no stop pulse is in progress: the port outputs are inactive between two steps (R25, R26, R30). -/
def LinesIdle (s : State) : Prop := s.rxTake = false ∧ s.txWrite = false ∧ s.stopAssert = false

/-- The frame being sent is the response to `CMD` (R131, R141, R142), built from the processed snapshot of the
snapshot read in this cycle (R20, R133). -/
def FrameAnswers (s : State) : Prop :=
  match s.cmd with
  | .probe => s.flen = .id3 ∧ s.frame[0] = 0x09 ∧ s.frame[1] = 0x00 ∧ s.frame[2] = 0x03
  | .poll _ => s.flen = .state8 ∧ s.proc = process s.raw ∧ s.frame = stateFrame s.cfg.axes s.proc s.frame
  | .probeOrigin => s.flen = .origin10 ∧ s.proc = process s.raw ∧
      s.frame = stateFrame s.cfg.axes s.proc s.frame ∧ s.frame[8] = 0x00 ∧ s.frame[9] = 0x00
  | .unknown => False

/-- What the phase says of the registers: a refresh happens for `ProbeOrigin` and `Poll` only (R130); a symbol index
is inside the response (R14); while a response is sent the frame answers the command. -/
def PhaseAgrees (s : State) : Prop :=
  match s.ph with
  | .rx _ => True
  | .refresh => s.cmd = .probeOrigin ∨ ∃ r, s.cmd = .poll r
  | .tx j => j.val < 4 * s.flen.toNat ∧ FrameAnswers s
  | .drain => FrameAnswers s
  | .stopp => FrameAnswers s

/-- The invariant of the machine. -/
structure Inv (s : State) : Prop where
  cfgWf  : s.cfg.wf = true
  rxen   : s.rxen = receiverPhase s.ph
  lines  : LinesIdle s
  agrees : PhaseAgrees s

/-- Every physical byte the trace says was transmitted is one of the four canonical data encodings (R96). -/
def TraceCanonical (s : State) : Prop :=
  ∀ p, Event.txPut p ∈ s.trace → p = s.cfg.cal.a ∨ p = s.cfg.cal.c ∨ p = s.cfg.cal.e ∨ p = s.cfg.cal.g

/-! ### Waiting and `E_HANG` -/

/-- The core waits: the condition its phase reads does not hold (R195, R203). -/
def Waits (s : State) : Prop :=
  match s.ph with
  | .rx _ => rxReady s = false
  | .tx _ => txReady s = false
  | .drain => txComplete s = false
  | .refresh => False
  | .stopp => False

/-- The condition a phase reads, in one sample of the inputs (R206). -/
def conditionIn (ph : Phase) (e : Inputs) : Bool :=
  match ph with
  | .rx _ => e.rxReady
  | .tx _ => e.txReady
  | .drain => e.txComplete
  | .refresh => true
  | .stopp => true

/-- The condition the phase waits on does not hold in any of the next `k` samples. -/
def WaitsFor (s : State) (k : Nat) : Prop := ∀ l, l < k → conditionIn s.ph (inputAt s l) = false

/-- `E_HANG` (R203): the condition the phase waits on never holds again. -/
def HangsIn (s : State) : Prop := ∀ k, WaitsFor s k

/-! ### Events -/

/-- The events one step appends to `TRACE`, by phase (R28, R52). -/
def stepEvents (s : State) : List Event :=
  match s.ph with
  | .rx _ => if rxReady s then [.rxTake s.inputs.rxData] else []
  | .refresh => [.inRefresh s.inputs.buttons]
  | .tx j => if txReady s then [.txPut (txByte s.cfg.cal s.frame j)] else []
  | .drain => []
  | .stopp => [.stopPulse]

/-- The bytes a trace says were taken, in order (R47). -/
def takenBytes (es : List Event) : List PByte :=
  es.filterMap fun e => match e with
    | .rxTake p => some p
    | .inRefresh _ => none
    | .txPut _ => none
    | .stopPulse => none

/-- The number of stop pulses in a trace (R148). -/
def stopPulses (es : List Event) : Nat := es.count .stopPulse

/-- The phase in which a parse that gives `c` ends (R130): the identification frame is sent at once, the state frame after a
refresh, and `Unknown` is the end of the cycle. -/
def dispatchPhase : Cmd → Phase
  | .probe => .tx 0
  | .probeOrigin => .refresh
  | .poll _ => .refresh
  | .unknown => .rx 0

/-- The `TxPut` events of a whole response (R145): `TXB(0)` to `TXB(4*FLEN-1)`. -/
def responseEvents (k : Cal) (f : Vector LByte 10) (n : FrameLen) : List Event :=
  ((List.finRange 40).filter (fun j => decide (j.val < 4 * n.toNat))).map (fun j => .txPut (txByte k f j))

/-- The six decode rows on a byte `p`, each with the symbol of its row (R80 to R85). -/
def decodeRows (p : PByte) : List (Sym6 × Instr) :=
  [(.sym .s00, .decodeS00 p), (.sym .s01, .decodeS01 p), (.sym .s10, .decodeS10 p), (.sym .s11, .decodeS11 p),
   (.sym .stop, .decodeStop p), (.invalid, .decodeInvalid p)]

/-- The encode rows of the four data symbols, each with the canonical byte of its row (R86 to R89). -/
def dataEncodeRows (k : Cal) : List (Instr × PByte) :=
  [(.encodeS00, k.a), (.encodeS01, k.c), (.encodeS10, k.e), (.encodeS11, k.g)]

/-- The core's own state: everything but what the environment drives (R29). -/
def sameCore (s t : State) : Prop :=
  { t with inputs := s.inputs, upcoming := s.upcoming, tick := s.tick } = s

end Sys2Proof.Machine
end

