-- ==== Sys2Proof/Certificates/Slice0/Obligations.lean ====
section
/-! DEFINITION. The statements for the provers. Each docstring names the rule of spec/ it formalises, or says what it rests on. -/

open Sys2Proof Sys2Proof.Machine

/-! ### The codec and the classification -/

/-- R80 to R84: which bytes decode to each of the five symbols, the nine calibration bytes being pairwise distinct
(R93). -/
def Obligations.DecodeRecognisedBytes : Prop :=
  ∀ k : Cal, k.distinct = true → ∀ p : PByte,
    (decodeByte k p = .sym .s00 ↔ p = k.a ∨ p = k.b) ∧
    (decodeByte k p = .sym .s01 ↔ p = k.c ∨ p = k.d) ∧
    (decodeByte k p = .sym .s10 ↔ p = k.e ∨ p = k.f) ∧
    (decodeByte k p = .sym .s11 ↔ p = k.g ∨ p = k.h) ∧
    (decodeByte k p = .sym .stop ↔ p = k.i)

/-- R85, R76: a byte decodes to `INVALID` exactly when it is none of the nine, and there are 247 such bytes. The value
`INVALID` is the spec's decision D1. -/
def Obligations.UnrecognisedBytesAreInvalid : Prop :=
  ∀ k : Cal,
    (∀ p : PByte, decodeByte k p = .invalid ↔ p ∉ k.bytes) ∧
    (k.distinct = true →
      ((List.finRange 256).filter (fun n => decide (decodeByte k (BitVec.ofFin n) = .invalid))).length = 247)

/-- R92: `decode(encode(s)) = s`; the alternates decode to the same symbol; `encode(decode(p)) = p` exactly for the
canonical bytes. -/
def Obligations.CodecRoundTrip : Prop :=
  ∀ k : Cal, k.distinct = true →
    (∀ s : Sym, decodeByte k (encodeSym k s) = .sym s) ∧
    decodeByte k k.b = .sym .s00 ∧ decodeByte k k.d = .sym .s01 ∧
    decodeByte k k.f = .sym .s10 ∧ decodeByte k k.h = .sym .s11 ∧
    (∀ p : PByte, (∃ s, decodeByte k p = .sym s ∧ encodeSym k s = p) ↔
      (p = k.a ∨ p = k.c ∨ p = k.e ∨ p = k.g ∨ p = k.i))

/-- R66, R106: a group matches a constant exactly when its four slots hold data symbols whose joined bit pairs are
that constant; a group with a `STOP` or an `INVALID` has no value and matches nothing. -/
def Obligations.GroupMatchIsByteValue : Prop :=
  ∀ g : SlotGroup,
    (∀ c : LByte, groupMatches g c = true ↔ groupValue g = some c) ∧
    (groupValue g = none ↔ ∃ y ∈ g.syms, y = .invalid ∨ y = .sym .stop) ∧
    ((∃ y ∈ g.syms, y = .invalid ∨ y = .sym .stop) → ∀ c : LByte, groupMatches g c = false)

/-- R113, R69: classification, said through the values of the received bytes. -/
def Obligations.ClassificationByByteValue : Prop :=
  ∀ c : Cfg, c.wf = true → ∀ g0 g1 g2 : SlotGroup,
    (classifyShort c g0 = .probe ↔ groupValue g0 = some c.cmdB0Probe) ∧
    (classifyShort c g0 = .probeOrigin ↔ groupValue g0 = some c.cmdB0Origin) ∧
    (∀ r, classifyShort c g0 ≠ .poll r) ∧
    (classifyLong c g0 g1 g2 = .poll false ↔
      groupValue g0 = some c.cmdB0Poll ∧ groupValue g1 = some 0x0F ∧ groupValue g2 = some 0x00) ∧
    (classifyLong c g0 g1 g2 = .poll true ↔
      groupValue g0 = some c.cmdB0Poll ∧ groupValue g1 = some 0x0F ∧ groupValue g2 = some 0x01) ∧
    classifyLong c g0 g1 g2 ≠ .probe ∧ classifyLong c g0 g1 g2 ≠ .probeOrigin

/-- R70, R118, R119: a `STOP` or `INVALID` in a data slot makes the command `Unknown`. That `INVALID` exists is the
spec's decision D1. -/
def Obligations.BadSlotMakesUnknown : Prop :=
  ∀ (c : Cfg) (g0 g1 g2 : SlotGroup),
    ((∃ y ∈ g0.syms, y = .invalid ∨ y = .sym .stop) → classifyShort c g0 = .unknown) ∧
    ((∃ y ∈ g0.syms ++ g1.syms ++ g2.syms, y = .invalid ∨ y = .sym .stop) →
      classifyLong c g0 g1 g2 = .unknown)

/-- R73: the fifth symbol alone decides how many symbols a command takes; a shorter stream is rejected by name. -/
def Obligations.CommandLengthByFifthSymbol : Prop :=
  ∀ (c : Cfg) (ys : List Sym6),
    (ys[4]? = some (.sym .stop) → ∃ i, decodeCommand c ys = .ok (i, ys.drop 5)) ∧
    (ys[4]? ≠ some (.sym .stop) → 13 ≤ ys.length → ∃ i, decodeCommand c ys = .ok (i, ys.drop 13)) ∧
    (ys[4]? ≠ some (.sym .stop) → ys.length < 13 → decodeCommand c ys = .error .truncated)

/-! ### Encoding -/

/-- Decode and encode agree on every well-formed instruction, every operand at every value. -/
def Obligations.EncodeDecodeAgree : Prop :=
  ∀ (c : Cfg) (i : Instr), c.wf = true → i.wf c = true → decode c (encode c i) = .ok i

/-- Every word that decodes gives a well-formed instruction and is its encoding, but for the thirteenth symbol of a
poll, which is not examined (R105). -/
def Obligations.DecodedWordReencodes : Prop :=
  ∀ (c : Cfg) (w : OpWord) (i : Instr), c.wf = true → decode c w = .ok i →
    i.wf c = true ∧
    (encode c i = w ∨
      ((i = .poll0 ∨ i = .poll1) ∧ ∃ ys x x', ys.length = 12 ∧
        encode c i = .stream (ys ++ [x]) ∧ w = .stream (ys ++ [x'])))

/-- The words of spec/opcode_table.json and the streams of R74, written out, decode to their rows. -/
def Obligations.TableWordsDecode : Prop :=
  decodeTableWord 8 0x00 = some .probe ∧
  decodeTableWord 8 0x04 = some .probeOrigin ∧
  decodeTableWord 24 0x040F00 = some .poll0 ∧
  decodeTableWord 24 0x040F01 = some .poll1 ∧
  decode hardwired (.stream [.sym .s00, .sym .s00, .sym .s01, .sym .s00, .sym .stop]) = .ok .probeOrigin ∧
  decode hardwired (.stream [.sym .s00, .sym .s00, .sym .s01, .sym .s00, .sym .s00, .sym .s00, .sym .s11, .sym .s11,
    .sym .s00, .sym .s00, .sym .s00, .sym .s01, .sym .stop]) = .ok .poll1 ∧
  decode hardwired (.stream [.sym .s01, .sym .s00, .sym .s00, .sym .s00, .sym .stop])
    = .ok (.unknownShort ⟨.sym .s01, .sym .s00, .sym .s00, .sym .s00⟩) ∧
  decode hardwired (.sym .s10) = .ok .encodeS10

/-! ### The step -/

/-- A step runs the decoded instruction: the command when its last symbol is taken, the decode row of any other
received byte, the cleaner in `REFRESH`, the encode row of the symbol to send in `TX(j)`; then the environment moves on. -/
def Obligations.StepRunsDecodedInstruction : Prop :=
  ∀ (s : State) (i : Instr), s.cfg.wf = true →
    (s.ph = .rx 4 → rxReady s = true → decodeByte s.cfg.cal s.inputs.rxData = .sym .stop →
      decode s.cfg (.stream (s.slot0.syms ++ [.sym .stop])) = .ok i → step s = thenAdvance (exec i s)) ∧
    (s.ph = .rx 12 → rxReady s = true →
      decode s.cfg (.stream (s.slot0.syms ++ s.slot1.syms ++ s.slot2.syms ++
        [decodeByte s.cfg.cal s.inputs.rxData])) = .ok i → step s = thenAdvance (exec i s)) ∧
    (∀ n, s.ph = .rx n → n.val ≠ 12 → ¬ (n.val = 4 ∧ decodeByte s.cfg.cal s.inputs.rxData = .sym .stop) →
      rxReady s = true → decode s.cfg (.phys s.inputs.rxData) = .ok i → step s = thenAdvance (exec i s)) ∧
    (s.ph = .refresh → decode s.cfg (.snap s.inputs.buttons) = .ok i → step s = thenAdvance (exec i s)) ∧
    (∀ j, s.ph = .tx j → txReady s = true → decode s.cfg (.sym (txSym s.frame j)) = .ok i →
      step s = thenAdvance (exec i s))

/-- A table word placed for the next step is the instruction the next step runs, and that step completes (assumption
log 14: the model's choice of what a table word is). -/
def Obligations.FetchWordRunsCommand : Prop :=
  ∀ (s : State) (nbits w : Nat) (i : Instr), s.cfg = hardwired → decodeTableWord nbits w = some i →
    step (s.withFetchWord nbits w) = thenAdvance (exec i (s.withFetchWord nbits w)) ∧
    ∃ t, step (s.withFetchWord nbits w) = .next t

/-- A step never faults: with a `CFG` that meets its constraints there is a next state, and any other `CFG` is refused
(R5, R93, U13; that a wait is a next state is assumption log 8). -/
def Obligations.StepProceedsOrRefusesConfiguration : Prop :=
  ∀ s : State,
    (s.cfg.wf = true → ∃ t, step s = .next t) ∧
    (s.cfg.wf = false → step s = .refused .configuration)

/-- R30, R230: the values the spec gives for reset (its decision D14). -/
def Obligations.ResetValues : Prop :=
  State.reset.ph = .rx 0 ∧ State.reset.rxen = true ∧ rxEnable State.reset = true ∧
  State.reset.stopAssert = false ∧ State.reset.txWrite = false ∧ State.reset.rxTake = false ∧
  State.reset.cfg = hardwired ∧ State.reset.trace = []

/-- The invariant holds at reset (the values of R30, the spec's decision D14). -/
def Obligations.ResetMeetsInvariant : Prop := Inv State.reset

/-- Every step keeps the invariant: `RXEN` is 1 exactly in the `RX` phases and `REFRESH` (R16; where it changes is the spec's
decision D12), a refresh happens for `ProbeOrigin` and `Poll` only (R130), the symbol index stays inside the response
(R14), and while a response is sent the frame is the answer to `CMD` built from this cycle's snapshot (R20, R131, R141,
R142). That the strobes are inactive between two steps is the model's choice (assumption log 11). -/
def Obligations.StepKeepsInvariant : Prop :=
  ∀ s t : State, Inv s → step s = .next t → Inv t

/-- R96, R97: every step keeps "each transmitted byte is `CAL.A`, `CAL.C`, `CAL.E` or `CAL.G`": no alternate and no
`encode(STOP)` is ever written. -/
def Obligations.StepKeepsCanonicalTrace : Prop :=
  ∀ s t : State, TraceCanonical s → step s = .next t → TraceCanonical t

/-! ### The command rows -/

/-- R107: `PROBE`, in the terminal step of the short path; R131's frame is loaded, button state is not touched. The model's
choices in it: it runs whatever `SLOT0` holds, where R107 selects it on a match only (assumption log 23: `step` makes the
match), `FRAME[3..9]` keep what they held (log 25), and `rx_take` is inactive again at the end of the step (log 11). -/
def Obligations.ProbeCompletes : Prop :=
  ∀ s : State, s.ph = .rx 4 → rxReady s = true → decodeByte s.cfg.cal s.inputs.rxData = .sym .stop →
    exec .probe s = .next { s with
      rxTake := false
      inputs := { s.inputs with rxReady := false }
      trace := s.trace ++ [.rxTake s.inputs.rxData]
      slot1 := { s.slot1 with k0 := .sym .stop }
      cmd := .probe
      frame := #v[0x09, 0x00, 0x03, s.frame[3], s.frame[4], s.frame[5], s.frame[6], s.frame[7], s.frame[8], s.frame[9]]
      flen := .id3
      rxen := false
      ph := .tx 0 }

/-- R108: `PROBEORIGIN`, in the terminal step of the short path; the response follows through `REFRESH` (R130). That it runs
whatever `SLOT0` holds, where R108 selects it on a match only, is the model's choice (assumption log 23: `step` makes the
match), and so is that `rx_take` is inactive again at the end of the step (assumption log 11). -/
def Obligations.ProbeOriginCompletes : Prop :=
  ∀ s : State, s.ph = .rx 4 → rxReady s = true → decodeByte s.cfg.cal s.inputs.rxData = .sym .stop →
    exec .probeOrigin s = .next { s with
      rxTake := false
      inputs := { s.inputs with rxReady := false }
      trace := s.trace ++ [.rxTake s.inputs.rxData]
      slot1 := { s.slot1 with k0 := .sym .stop }
      cmd := .probeOrigin
      ph := .refresh }

/-- R110, R111: `POLL 0` and `POLL 1`, in the terminal step of the long path, whatever the thirteenth symbol (R105, the spec's
decision D17); an undefined thirteenth byte is recorded (R202). That they run whatever the slots hold is the model's choice
(assumption log 23: `step` makes the match), and so is that `rx_take` is inactive again at the end (assumption log 11). -/
def Obligations.PollCommandsComplete : Prop :=
  ∀ (s : State) (i : Instr) (r : Bool), (i, r) ∈ [(Instr.poll0, false), (Instr.poll1, true)] →
    s.ph = .rx 12 → rxReady s = true →
    exec i s = .next { s with
      rxTake := false
      inputs := { s.inputs with rxReady := false }
      trace := s.trace ++ [.rxTake s.inputs.rxData]
      errors := s.errors ++
        (if decodeByte s.cfg.cal s.inputs.rxData = .invalid then [.undefByte s.inputs.rxData] else [])
      cmd := .poll r
      ph := .refresh }

/-- R109, R112, R144 (the spec's decision D19): `UNKNOWN` by either path: `CMD <- Unknown`, the error recorded, no response, back
to `RX(0)`. That the recorded slots are the operands `b0`, `b1`, `b2`, and that these need be neither the slot registers
nor an unknown pattern, is the model's choice (assumption log 23: `step` passes the slots of an unknown pattern), and so
is that `rx_take` is inactive again at the end (assumption log 11). -/
def Obligations.UnknownCommandsComplete : Prop :=
  ∀ (s : State) (b0 b1 b2 : SlotGroup) (x : Sym6), rxReady s = true →
    (s.ph = .rx 4 → decodeByte s.cfg.cal s.inputs.rxData = .sym .stop →
      exec (.unknownShort b0) s = .next { s with
        rxTake := false
        inputs := { s.inputs with rxReady := false }
        trace := s.trace ++ [.rxTake s.inputs.rxData]
        errors := s.errors ++ [.unknownCmdShort b0]
        slot1 := { s.slot1 with k0 := .sym .stop }
        cmd := .unknown
        ph := .rx 0 }) ∧
    (s.ph = .rx 12 →
      exec (.unknownLong b0 b1 b2 x) s = .next { s with
        rxTake := false
        inputs := { s.inputs with rxReady := false }
        trace := s.trace ++ [.rxTake s.inputs.rxData]
        errors := s.errors ++
          (if decodeByte s.cfg.cal s.inputs.rxData = .invalid then [.undefByte s.inputs.rxData] else []) ++
          [.unknownCmdLong b0 b1 b2]
        cmd := .unknown
        ph := .rx 0 })

/-! ### The codec rows -/

/-- R101, R103, R104 and the `else` branch of R102, for the six decode rows: the symbol is stored in its slot whatever it is,
the phase goes on, nothing else is written but the records of the byte (R100, R85). That the byte taken is the operand
`p` and not `rx_data` is the model's choice (assumption log 23: `step` passes `rx_data`), and so is that `rx_take` is
inactive again at the end (assumption log 11). -/
def Obligations.DecodeRowsStoreSymbol : Prop :=
  ∀ (s : State) (p : PByte) (y : Sym6) (i : Instr) (n : Fin 13) (h : n.val + 1 < 13),
    (y, i) ∈ decodeRows p → decodeByte s.cfg.cal p = y →
    s.ph = .rx n → rxReady s = true → ¬ (n.val = 4 ∧ y = .sym .stop) →
    exec i s = .next { s with
      rxTake := false
      inputs := { s.inputs with rxReady := false }
      trace := s.trace ++ [.rxTake p]
      errors := s.errors ++ (if y = .invalid then [.undefByte p] else [])
      slot0 := if n.val < 4 then putSlot s.slot0 n.val y else s.slot0
      slot1 := if 4 ≤ n.val ∧ n.val < 8 then putSlot s.slot1 (n.val - 4) y else s.slot1
      slot2 := if 8 ≤ n.val then putSlot s.slot2 (n.val - 8) y else s.slot2
      ph := .rx ⟨n.val + 1, h⟩ }

/-- R102: taking `STOP` as the fifth symbol is running the command the short path classifies. -/
def Obligations.FifthStopRunsCommand : Prop :=
  ∀ s : State, s.ph = .rx 4 → rxReady s = true → decodeByte s.cfg.cal s.inputs.rxData = .sym .stop →
    exec (.decodeStop s.inputs.rxData) s = exec (decodeShort s.cfg s.slot0) s

/-- R105 (decision D17): taking the thirteenth symbol, whatever it is, is running the command the long path classifies
from the twelve symbols before it. -/
def Obligations.ThirteenthSymbolRunsCommand : Prop :=
  ∀ (s : State) (y : Sym6) (i : Instr), (y, i) ∈ decodeRows s.inputs.rxData →
    decodeByte s.cfg.cal s.inputs.rxData = y → s.ph = .rx 12 → rxReady s = true →
    exec i s = exec (decodeLong s.cfg s.slot0 s.slot1 s.slot2 y) s

/-- R86 to R89 (which encoding is sent is the spec's decision D2) and R146: an encode row of a data symbol hands its canonical
byte to the Transceiver, and the phase goes to the next symbol or, after the last one, to `DRAIN`. The model's choices in
it: a row is the transmit step and sends its own byte whatever `TXB(j)` is (assumption logs 6 and 23: `step` passes the row
of `TXB(j)`), `encOut` (log 7), `tx_write` inactive again at the end (log 11), where `tx_data` still shows the byte
(log 27). -/
def Obligations.EncodeRowsTransmit : Prop :=
  ∀ (s : State) (i : Instr) (b : PByte) (j : Fin 40), (i, b) ∈ dataEncodeRows s.cfg.cal →
    s.ph = .tx j → txReady s = true →
    (∀ h : j.val + 1 < 40, j.val + 1 < 4 * s.flen.toNat →
      exec i s = .next { s with
        encOut := b, txData := b, txWrite := false, trace := s.trace ++ [.txPut b], ph := .tx ⟨j.val + 1, h⟩ }) ∧
    (¬ j.val + 1 < 4 * s.flen.toNat →
      exec i s = .next { s with
        encOut := b, txData := b, txWrite := false, trace := s.trace ++ [.txPut b], ph := .drain })

/-- R90, R97: the encode of `STOP` gives `CAL.I` and writes nothing to the Transceiver, in every state (`encOut` is the
model's record of the codec's result, assumption log 7). -/
def Obligations.EncodeStopTransmitsNothing : Prop :=
  ∀ s : State, exec .encodeStop s = .next { s with encOut := s.cfg.cal.i }

/-! ### The cleaner and the state frame -/

/-- R132: the refresh step, for every command that reaches it and every snapshot. When it happens is the spec's decision D13
(assumption log 18); the model's choices in it: the row is the refresh step and reads its operand (logs 6 and 23: `step`
passes the inputs), `in_id` keeps the last identifier (log 12), frame bytes above the response stay (log 25). -/
def Obligations.CleanRefreshes : Prop :=
  ∀ (s : State) (raw : Snapshot), s.ph = .refresh →
    exec (.clean raw) s = .next { s with
      inId := 21
      trace := s.trace ++ [.inRefresh raw]
      raw := raw
      proc := process raw
      frame := #v[frameByte0 (process raw), frameByte1 (process raw),
        axMain s.cfg.axes.mx (process raw).msLeft (process raw).msRight (process raw).tilt,
        axMain s.cfg.axes.my (process raw).msDown (process raw).msUp (process raw).tilt,
        axC s.cfg.axes.cx (process raw).csLeft (process raw).csRight,
        axC s.cfg.axes.cy (process raw).csDown (process raw).csUp,
        0x00, 0x00,
        (if s.cmd = .probeOrigin then 0x00 else s.frame[8]),
        (if s.cmd = .probeOrigin then 0x00 else s.frame[9])]
      flen := if s.cmd = .probeOrigin then .origin10 else .state8
      rxen := false
      ph := .tx 0 }

/-- R171: the table of `clean`, the function it is said to be, and the same in bits (`Pushed = 1`). -/
def Obligations.SocdCleanTable : Prop :=
  clean .released .released = (.released, .released) ∧
  clean .released .pushed = (.released, .pushed) ∧
  clean .pushed .released = (.pushed, .released) ∧
  clean .pushed .pushed = (.released, .released) ∧
  (∀ n p, clean n p = if n = .pushed ∧ p = .pushed then (.released, .released) else (n, p)) ∧
  (∀ n p, buttonBit (clean n p).1 = buttonBit n &&& ~~~ buttonBit p ∧
    buttonBit (clean n p).2 = buttonBit p &&& ~~~ buttonBit n)

/-- R172, R175: a refresh leaves in `PROC` each of the six pairs of `RAW` cleaned in its own lane, whatever the other
inputs are, and every identifier of no pair as it is in `RAW`. The model's choice in it: `RAW` is the row's operand, where
R132 gives it from `InRead` (assumption logs 6 and 23: the row is the refresh step, and `step` passes the inputs). -/
def Obligations.RefreshCleansPairsPassesOthers : Prop :=
  ∀ (s : State) (snap : Snapshot), s.ph = .refresh → ∃ t, exec (.clean snap) s = .next t ∧ t.raw = snap ∧
    (∀ neg pos, (neg, pos) ∈ socdPairs →
      (buttonOf t.proc neg, buttonOf t.proc pos) = clean (buttonOf t.raw neg) (buttonOf t.raw pos)) ∧
    (∀ id, (∀ q ∈ socdPairs, id ≠ q.1 ∧ id ≠ q.2) → buttonOf t.proc id = buttonOf t.raw id)

/-- R174, R177: no pair is (Pushed, Pushed) after cleaning, and cleaning again changes nothing. -/
def Obligations.ProcessConflictFreeIdempotent : Prop :=
  ∀ raw : Snapshot,
    (∀ neg pos, (neg, pos) ∈ socdPairs →
      ¬ (buttonOf (process raw) neg = .pushed ∧ buttonOf (process raw) pos = .pushed)) ∧
    process (process raw) = process raw

/-- R172, R173: the result of a pair depends on that pair's two raw states only. -/
def Obligations.LanesIndependent : Prop :=
  ∀ (raw raw' : Snapshot) (neg pos : ButtonId), (neg, pos) ∈ socdPairs →
    buttonOf raw neg = buttonOf raw' neg → buttonOf raw pos = buttonOf raw' pos →
    buttonOf (process raw) neg = buttonOf (process raw') neg ∧
    buttonOf (process raw) pos = buttonOf (process raw') pos

/-- R134, R135: the bits of the two button bytes, with `Pushed = 1` (decision D5). -/
def Obligations.ButtonBytesBits : Prop :=
  ∀ m : Snapshot,
    (List.ofFn fun k : Fin 8 => (frameByte0 m).getLsbD (7 - k.val)) =
      [false, false, false, m.start == .pushed, m.y == .pushed, m.x == .pushed, m.b == .pushed, m.a == .pushed] ∧
    (List.ofFn fun k : Fin 8 => (frameByte1 m).getLsbD (7 - k.val)) =
      [true, m.l == .pushed, m.r == .pushed, m.z == .pushed,
       m.dpadUp == .pushed, m.dpadDown == .pushed, m.dpadLeft == .pushed, m.dpadRight == .pushed]

/-- R135: on a cleaned snapshot bits 3 and 2 of frame byte 1 are never both 1, nor bits 1 and 0. -/
def Obligations.DpadNibbleNeverOpposed : Prop :=
  ∀ raw : Snapshot,
    ¬ ((frameByte1 (process raw)).getLsbD 3 = true ∧ (frameByte1 (process raw)).getLsbD 2 = true) ∧
    ¬ ((frameByte1 (process raw)).getLsbD 1 = true ∧ (frameByte1 (process raw)).getLsbD 0 = true)

/-- R136, R138, R139, R140 with R171: the stick and trigger bytes as a function of the raw snapshot. -/
def Obligations.StickAndTriggerBytes : Prop :=
  ∀ (x : Axes) (raw : Snapshot) (old : Vector LByte 10),
    (stateFrame x (process raw) old)[2] =
      (if raw.msLeft = raw.msRight then x.mx.center
       else if raw.msLeft = .pushed then (if raw.tilt = .pushed then x.mx.tiltNeg else x.mx.fullNeg)
       else (if raw.tilt = .pushed then x.mx.tiltPos else x.mx.fullPos)) ∧
    (stateFrame x (process raw) old)[3] =
      (if raw.msDown = raw.msUp then x.my.center
       else if raw.msDown = .pushed then (if raw.tilt = .pushed then x.my.tiltNeg else x.my.fullNeg)
       else (if raw.tilt = .pushed then x.my.tiltPos else x.my.fullPos)) ∧
    (stateFrame x (process raw) old)[4] =
      (if raw.csLeft = raw.csRight then x.cx.center
       else if raw.csLeft = .pushed then x.cx.fullNeg else x.cx.fullPos) ∧
    (stateFrame x (process raw) old)[5] =
      (if raw.csDown = raw.csUp then x.cy.center
       else if raw.csDown = .pushed then x.cy.fullNeg else x.cy.fullPos) ∧
    (stateFrame x (process raw) old)[6] = 0x00 ∧ (stateFrame x (process raw) old)[7] = 0x00

/-- R151: the `MACRO` state of the snapshot does not reach the frame of any response built from a snapshot, of a poll or of
`PROBEORIGIN`; R143 (the spec's decision D16): the rumble flag does not reach the frame of a poll. The model's choice in
it: the snapshot is the row's operand (assumption logs 6 and 23: `step` passes the inputs). -/
def Obligations.MacroAndRumbleInvisible : Prop :=
  ∀ (s : State) (snap : Snapshot), s.ph = .refresh →
    (∀ b : ButtonState, ∃ t t', exec (.clean snap) s = .next t ∧
      exec (.clean { snap with macroBtn := b }) s = .next t' ∧ t.frame = t'.frame ∧ t.flen = t'.flen) ∧
    (∀ r r' : Bool, s.cmd = .poll r → ∃ t t', exec (.clean snap) s = .next t ∧
      exec (.clean snap) { s with cmd := .poll r' } = .next t' ∧ t.frame = t'.frame ∧ t.flen = t'.flen)

/-! ### The steps no instruction stands for -/

/-- R146, with R145's byte: the transmit step sends `TXB(j)` exactly when `tx_ready` holds and goes to the next symbol or to
`DRAIN`; otherwise the core waits. The model's choices in it: the poll that finds `tx_ready` false is a step that changes
nothing (assumption log 8), `encOut` (log 7), `tx_write` inactive again at the end (log 11), where `tx_data` still shows
the byte (log 27). -/
def Obligations.TransmitStep : Prop :=
  ∀ (s : State) (j : Fin 40), s.cfg.wf = true → s.ph = .tx j →
    (txReady s = true → (∀ h : j.val + 1 < 40, j.val + 1 < 4 * s.flen.toNat →
      step s = .next (advance { s with
        encOut := txByte s.cfg.cal s.frame j, txData := txByte s.cfg.cal s.frame j, txWrite := false,
        trace := s.trace ++ [.txPut (txByte s.cfg.cal s.frame j)], ph := .tx ⟨j.val + 1, h⟩ }))) ∧
    (txReady s = true → ¬ j.val + 1 < 4 * s.flen.toNat →
      step s = .next (advance { s with
        encOut := txByte s.cfg.cal s.frame j, txData := txByte s.cfg.cal s.frame j, txWrite := false,
        trace := s.trace ++ [.txPut (txByte s.cfg.cal s.frame j)], ph := .drain })) ∧
    (txReady s = false → step s = .next (advance s))

/-- R147: the drain step. That a poll without `tx_complete` is a step that changes nothing, where R147 says that the drain
step is not enabled, is the model's choice (assumption log 8). -/
def Obligations.DrainStep : Prop :=
  ∀ s : State, s.cfg.wf = true → s.ph = .drain →
    step s = .next (advance (if s.inputs.txComplete = true then { s with ph := .stopp } else s))

/-- R148 (where `RXEN` is set is the spec's decision D12): the stop step. That `stop_assert` is inactive again at the end of the
step is the model's choice (assumption log 11). -/
def Obligations.StopPulseStep : Prop :=
  ∀ s : State, s.cfg.wf = true → s.ph = .stopp →
    step s = .next (advance { s with
      stopAssert := false, trace := s.trace ++ [.stopPulse], rxen := true, ph := .rx 0 })

/-- R116, R203: while the condition a phase reads does not hold, the core changes nothing (assumption log 8: the
poll that finds it false is a step). -/
def Obligations.WaitChangesNothing : Prop :=
  ∀ s : State, s.cfg.wf = true → Waits s → step s = .next (advance s)

/-- R203: for as long as the condition does not hold, whatever the number of polls, the core stays in its phase and
writes nothing; there is no timeout. `HangsIn` (`E_HANG`) is this for every `k`. -/
def Obligations.WaitHasNoTimeout : Prop :=
  ∀ (s : State) (k : Nat), s.cfg.wf = true → WaitsFor s k → ∃ t, run k s = .next t ∧ sameCore s t

/-! ### Rules of the whole machine -/

/-- R28, R51, R234: a step appends to `TRACE` the event of its phase and nothing else: one `RxTake` when a byte is
ready, the `InRefresh`, one `TxPut` of the frame's next symbol when the transmitter is ready, the `StopPulse` in `STOPP`
and nowhere else. -/
def Obligations.EventsByPhase : Prop :=
  ∀ s t : State, step s = .next t → t.trace = s.trace ++ stepEvents s

/-- R10, R11, R12, R16, R18, R19, R22: which steps may write which register (where `RXEN` changes is the spec's decision D12).
The model's choices in it: `in_id` keeps its value between two refreshes (assumption log 12), `tx_data` between two
transfers (log 27), and `encOut` is the model's own (log 7). -/
def Obligations.RegistersWrittenByTheirSteps : Prop :=
  ∀ s t : State, step s = .next t →
    t.cfg = s.cfg ∧
    ((∀ n, s.ph ≠ .rx n) → t.slot0 = s.slot0 ∧ t.slot1 = s.slot1 ∧ t.slot2 = s.slot2 ∧ t.cmd = s.cmd) ∧
    (t.cmd ≠ s.cmd → s.ph = .rx 4 ∨ s.ph = .rx 12) ∧
    (s.ph ≠ .refresh → t.raw = s.raw ∧ t.proc = s.proc ∧ t.inId = s.inId) ∧
    (s.ph ≠ .refresh → s.ph ≠ .rx 4 → s.ph ≠ .rx 12 → t.frame = s.frame ∧ t.flen = s.flen) ∧
    (t.rxen ≠ s.rxen → t.ph = .tx 0 ∨ s.ph = .stopp) ∧
    ((∀ j, s.ph ≠ .tx j) → t.txData = s.txData ∧ t.encOut = s.encOut)

/-- R53, R235 with R147, R148: the stop phase is entered only from `DRAIN` with `tx_complete` holding, and a `StopPulse`
is issued only in the stop phase, one in its step. -/
def Obligations.StopOnlyAfterDrain : Prop :=
  ∀ s t : State, step s = .next t →
    (t.ph = .stopp → s.ph = .drain ∧ txComplete s = true) ∧
    (s.ph = .stopp → stopPulses t.trace = stopPulses s.trace + 1) ∧
    (s.ph ≠ .stopp → stopPulses t.trace = stopPulses s.trace)

/-- R54, R233: while `RXEN = 0` a step takes no byte: the sequence of bytes taken is unchanged (where `RXEN` changes is decision D12). -/
def Obligations.NoReceiveWhileDisabled : Prop :=
  ∀ s t : State, s.rxen = false → step s = .next t → takenBytes t.trace = takenBytes s.trace

/-- R200, R202, R207: the errors a step records: an undefined byte at the step that takes it, an unknown command at the
terminal step, nothing otherwise (the log itself is the model's record). -/
def Obligations.ErrorsByStep : Prop :=
  ∀ s t : State, step s = .next t →
    ((∀ n, s.ph = .rx n → rxReady s = false) → t.errors = s.errors) ∧
    (∀ n, s.ph = .rx n → rxReady s = true →
      t.errors = s.errors ++
        (if decodeByte s.cfg.cal s.inputs.rxData = .invalid then [.undefByte s.inputs.rxData] else []) ++
        (if n.val = 4 ∧ decodeByte s.cfg.cal s.inputs.rxData = .sym .stop then
           (if classifyShort s.cfg s.slot0 = .unknown then [.unknownCmdShort s.slot0] else [])
         else if n.val = 12 then
           (if classifyLong s.cfg s.slot0 s.slot1 s.slot2 = .unknown
            then [.unknownCmdLong s.slot0 s.slot1 s.slot2] else [])
         else []))

/-- R47, R48, R85: where exec stops: an operation outside its phase, and a decode row on a byte that is no encoding of
its symbol. That it stops by these faults is the model's choice (assumption log 9). -/
def Obligations.OutOfPhaseAndIllFormedStop : Prop :=
  ∀ (s : State),
    (s.ph ≠ .rx 4 → ∀ b0, exec .probe s = .fault .outOfPhase ∧ exec .probeOrigin s = .fault .outOfPhase ∧
      exec (.unknownShort b0) s = .fault .outOfPhase) ∧
    (s.ph ≠ .rx 12 → ∀ b0 b1 b2 x, exec .poll0 s = .fault .outOfPhase ∧ exec .poll1 s = .fault .outOfPhase ∧
      exec (.unknownLong b0 b1 b2 x) s = .fault .outOfPhase) ∧
    (∀ p y i, (y, i) ∈ decodeRows p →
      (decodeByte s.cfg.cal p ≠ y → exec i s = .fault .illFormed) ∧
      (decodeByte s.cfg.cal p = y → (∀ n, s.ph ≠ .rx n) → exec i s = .fault .outOfPhase)) ∧
    (∀ i b, (i, b) ∈ dataEncodeRows s.cfg.cal → (∀ j, s.ph ≠ .tx j) → exec i s = .fault .outOfPhase) ∧
    (s.ph ≠ .refresh → ∀ raw, exec (.clean raw) s = .fault .outOfPhase)

/-! ### Cycles -/

/-- R114, R115: from `RX(0)`, whatever the bytes, a parse takes exactly five of them when the one at index 4 is `STOP`
and exactly thirteen otherwise; `CMD` is written in the last step and in no earlier one (R117); and where the parse ends
is what dispatch selects for the classification (R130). An `Unknown` parse is then the whole of its cycle, the two
`UNKNOWN` shapes of R190: five or thirteen `RxTake`, silence, and `RX(0)` with `RXEN = 1` (R144, decision D19). -/
def Obligations.ParserTakesFiveOrThirteen : Prop :=
  ∀ (s : State) (p : Nat → PByte) (y : Nat → Sym6), s.cfg.wf = true → s.ph = .rx 0 → s.rxen = true →
    (∀ k, k < 13 → (inputAt s k).rxReady = true ∧ (inputAt s k).rxData = p k) →
    (∀ k, y k = decodeByte s.cfg.cal (p k)) →
    (∀ k, k ≤ 4 → ∃ t, run k s = .next t ∧ t.ph = .rx (Fin.ofNat 13 k) ∧ t.cmd = s.cmd) ∧
    (y 4 = .sym .stop → ∃ t, run 5 s = .next t ∧
      t.cmd = classifyShort s.cfg ⟨y 0, y 1, y 2, y 3⟩ ∧
      t.trace = s.trace ++ (List.range 5).map (fun k => .rxTake (p k)) ∧
      t.ph = dispatchPhase t.cmd ∧ t.rxen = receiverPhase (dispatchPhase t.cmd)) ∧
    (y 4 ≠ .sym .stop →
      (∀ k, k ≤ 12 → ∃ t, run k s = .next t ∧ t.ph = .rx (Fin.ofNat 13 k) ∧ t.cmd = s.cmd) ∧
      ∃ t, run 13 s = .next t ∧
        t.cmd = classifyLong s.cfg ⟨y 0, y 1, y 2, y 3⟩ ⟨y 4, y 5, y 6, y 7⟩ ⟨y 8, y 9, y 10, y 11⟩ ∧
        t.trace = s.trace ++ (List.range 13).map (fun k => .rxTake (p k)) ∧
        t.ph = dispatchPhase t.cmd ∧ t.rxen = receiverPhase (dispatchPhase t.cmd))

/-- R145 to R148, R195: from `TX(0)`, when every condition holds as it is awaited, the whole frame is sent symbol by
symbol, then drained, then ended by one stop pulse, in `4*FLEN + 2` steps. -/
def Obligations.ResponseSentThenStopped : Prop :=
  ∀ s : State, s.cfg.wf = true → s.ph = .tx 0 →
    (∀ k, k < 4 * s.flen.toNat → (inputAt s k).txReady = true) →
    (inputAt s (4 * s.flen.toNat)).txComplete = true →
    ∃ t, run (4 * s.flen.toNat + 2) s = .next t ∧ t.ph = .rx 0 ∧ t.rxen = true ∧
      t.trace = s.trace ++ responseEvents s.cfg.cal s.frame s.flen ++ [.stopPulse]

/-- R131's response in R190's `PROBE` shape: nineteen steps; the twelve bytes of `09 00 03` and the stop pulse, whatever the
buttons; no `InRefresh`. -/
def Obligations.ProbeCycle : Prop :=
  ∀ (s : State) (p : Nat → PByte), s.cfg.wf = true → s.ph = .rx 0 → s.rxen = true →
    (∀ k, k < 5 → (inputAt s k).rxReady = true ∧ (inputAt s k).rxData = p k) →
    (∀ k, k < 4 → decodeByte s.cfg.cal (p k) = .sym (symAt s.cfg.cmdB0Probe (Fin.ofNat 4 k))) →
    decodeByte s.cfg.cal (p 4) = .sym .stop →
    (∀ k, 5 ≤ k → k < 17 → (inputAt s k).txReady = true) → (inputAt s 17).txComplete = true →
    ∃ t, run 19 s = .next t ∧ t.ph = .rx 0 ∧ t.rxen = true ∧ t.cmd = .probe ∧
      t.raw = s.raw ∧ t.proc = s.proc ∧
      t.flen = .id3 ∧ t.frame[0] = 0x09 ∧ t.frame[1] = 0x00 ∧ t.frame[2] = 0x03 ∧
      t.trace = s.trace ++ (List.range 5).map (fun k => .rxTake (p k)) ++
        [.txPut s.cfg.cal.a, .txPut s.cfg.cal.a, .txPut s.cfg.cal.e, .txPut s.cfg.cal.c,
         .txPut s.cfg.cal.a, .txPut s.cfg.cal.a, .txPut s.cfg.cal.a, .txPut s.cfg.cal.a,
         .txPut s.cfg.cal.a, .txPut s.cfg.cal.a, .txPut s.cfg.cal.a, .txPut s.cfg.cal.g, .stopPulse]

/-- R142, R190 (the `PROBEORIGIN` shape): forty-eight steps; the snapshot read once, the eight bytes built from it and two
zero bytes, the stop pulse. -/
def Obligations.ProbeOriginCycle : Prop :=
  ∀ (s : State) (p : Nat → PByte), s.cfg.wf = true → s.ph = .rx 0 → s.rxen = true →
    (∀ k, k < 5 → (inputAt s k).rxReady = true ∧ (inputAt s k).rxData = p k) →
    (∀ k, k < 4 → decodeByte s.cfg.cal (p k) = .sym (symAt s.cfg.cmdB0Origin (Fin.ofNat 4 k))) →
    decodeByte s.cfg.cal (p 4) = .sym .stop →
    (∀ k, 6 ≤ k → k < 46 → (inputAt s k).txReady = true) → (inputAt s 46).txComplete = true →
    ∃ t, run 48 s = .next t ∧ t.ph = .rx 0 ∧ t.rxen = true ∧ t.cmd = .probeOrigin ∧
      t.trace = s.trace ++ (List.range 5).map (fun k => .rxTake (p k)) ++
        [.inRefresh (inputAt s 5).buttons] ++
        responseEvents s.cfg.cal (originTail (stateFrame s.cfg.axes (process (inputAt s 5).buttons) s.frame)) .origin10 ++
        [.stopPulse]

/-- R141, R190 (the `POLL r` shape): forty-eight steps; the snapshot read once, the eight bytes built from it, the stop
pulse. -/
def Obligations.PollCycle : Prop :=
  ∀ (s : State) (p : Nat → PByte) (r : Bool), s.cfg.wf = true → s.ph = .rx 0 → s.rxen = true →
    (∀ k, k < 13 → (inputAt s k).rxReady = true ∧ (inputAt s k).rxData = p k) →
    (∀ k, k < 4 → decodeByte s.cfg.cal (p k) = .sym (symAt s.cfg.cmdB0Poll (Fin.ofNat 4 k))) →
    (∀ k, k < 4 → decodeByte s.cfg.cal (p (4 + k)) = .sym (symAt 0x0F (Fin.ofNat 4 k))) →
    (∀ k, k < 4 → decodeByte s.cfg.cal (p (8 + k)) = .sym (symAt (if r then 0x01 else 0x00) (Fin.ofNat 4 k))) →
    (∀ k, 14 ≤ k → k < 46 → (inputAt s k).txReady = true) → (inputAt s 46).txComplete = true →
    ∃ t, run 48 s = .next t ∧ t.ph = .rx 0 ∧ t.rxen = true ∧ t.cmd = .poll r ∧
      t.trace = s.trace ++ (List.range 13).map (fun k => .rxTake (p k)) ++
        [.inRefresh (inputAt s 13).buttons] ++
        responseEvents s.cfg.cal (stateFrame s.cfg.axes (process (inputAt s 13).buttons) s.frame) .state8 ++
        [.stopPulse]

/-- R194: a cycle carries nothing into the next. Two machines at `RX(0)` that differ in the data registers as they may,
but see the same environment, do the same things at the ports, in this cycle and in all that follow. -/
def Obligations.CyclesCarryNothingOver : Prop :=
  ∀ s s' : State, s.cfg.wf = true → s'.cfg = s.cfg → s.ph = .rx 0 → s'.ph = .rx 0 →
    s.rxen = true → s'.rxen = true →
    s'.inputs = s.inputs → s'.upcoming = s.upcoming → s'.tick = s.tick →
    ∀ k, ∃ t t' ev, run k s = .next t ∧ run k s' = .next t' ∧
      t.trace = s.trace ++ ev ∧ t'.trace = s'.trace ++ ev
end

