-- ==== Sys2Proof/Laws/Codec.lean ====
section
/-! SUPPORT. The small laws of symbols, groups and the codec that proofs about parsing cite. -/

namespace Sys2Proof

/-- A constraint of the hardwired configuration: its open part meets R93 and R137, its constants differ. -/
theorem hardwired_wf : hardwired.wf = true := by
  have h := Config.openParams.ok
  simp only [Bool.and_eq_true] at h
  simp [Cfg.wf, hardwired, h.1.1.1.1, h.1.1.1.2, h.1.1.2, cmdB0ProbeDefault, cmdB0OriginDefault]

/-- `syms` is injective (R95), slot by slot. -/
theorem symAt_inj {u v : LByte} (h : ∀ k, symAt u k = symAt v k) : u = v := by
  have h0 := h 0
  have h1 := h 1
  have h2 := h 2
  have h3 := h 3
  simp only [symAt] at h0 h1 h2 h3
  apply BitVec.eq_of_getLsbD_eq
  intro i hi
  have e : ∀ a b c d, symOf a b = symOf c d → a = c ∧ b = d := by decide
  obtain ⟨a7, a6⟩ := e _ _ _ _ h0
  obtain ⟨a5, a4⟩ := e _ _ _ _ h1
  obtain ⟨a3, a2⟩ := e _ _ _ _ h2
  obtain ⟨a1, a0⟩ := e _ _ _ _ h3
  interval_cases i <;> assumption

/-- A group matches a constant exactly when it holds the constant's symbols (R106). -/
theorem groupMatches_iff {g : SlotGroup} {c : LByte} : groupMatches g c = true ↔ g = groupOf c := by
  cases g
  simp [groupMatches, groupOf, and_assoc]

/-- Two constants matched by one group are equal. -/
theorem groupOf_inj {u v : LByte} (h : groupOf u = groupOf v) : u = v := by
  simp only [groupOf, SlotGroup.mk.injEq, Sym6.sym.injEq] at h
  obtain ⟨h0, h1, h2, h3⟩ := h
  apply symAt_inj
  intro k
  fin_cases k <;> assumption

/-- With distinct calibration bytes `CAL.I` is taken for `STOP` (R84, R93). -/
theorem decodeByte_stop {k : Cal} (h : k.distinct = true) : decodeByte k k.i = .sym .stop := by
  simp only [Cal.distinct, Cal.bytes, decide_eq_true_eq, List.nodup_cons, List.mem_cons, List.not_mem_nil, or_false,
    not_or] at h
  obtain ⟨⟨-, -, -, -, -, -, -, ha⟩, ⟨-, -, -, -, -, -, hb⟩, ⟨-, -, -, -, -, hc⟩, ⟨-, -, -, -, hd⟩, ⟨-, -, -, he⟩,
    ⟨-, -, hf⟩, ⟨-, hg⟩, hh, -⟩ := h
  simp [decodeByte, Ne.symm ha, Ne.symm hb, Ne.symm hc, Ne.symm hd, Ne.symm he, Ne.symm hf, Ne.symm hg, Ne.symm hh]

/-- A configuration that meets its constraints has distinct calibration bytes. -/
theorem Cfg.wf_distinct {c : Cfg} (h : c.wf = true) : c.cal.distinct = true := by
  simp only [Cfg.wf, Bool.and_eq_true] at h
  exact h.1.1.1

/-- A symbol of a logical byte is a data symbol (R95). -/
theorem symAt_ne_stop (v : LByte) (k : Fin 4) : symAt v k ≠ .stop := by
  have e : ∀ a b, symOf a b ≠ .stop := by decide
  fin_cases k <;> exact e _ _

/-- Five symbols with `STOP` at index 4 decode as a SHORT command (R69). -/
theorem decode_five (c : Cfg) (g : SlotGroup) :
    decode c (.stream (g.syms ++ [.sym .stop])) = .ok (decodeShort c g) := by
  simp [decode, decodeCommand, SlotGroup.syms]

/-- Thirteen symbols whose fifth is not `STOP` decode as a LONG command (R69). -/
theorem decode_thirteen (c : Cfg) (g0 g1 g2 : SlotGroup) (x : Sym6) (h : g1.k0 ≠ .sym .stop) :
    decode c (.stream (g0.syms ++ g1.syms ++ g2.syms ++ [x])) = .ok (decodeLong c g0 g1 g2 x) := by
  simp [decode, decodeCommand, SlotGroup.syms, h]

end Sys2Proof
end

