-- ==== Sys2Proof/Laws/State.lean ====
section
/-! SUPPORT. One lemma per field per update: what each named update of the state leaves in each register. -/

namespace Sys2Proof.Machine

section
variable (p : Phase) (s : State)
@[simp] theorem goto_cfg : (goto p s).cfg = s.cfg := rfl
@[simp] theorem goto_ph : (goto p s).ph = p := rfl
@[simp] theorem goto_rxen : (goto p s).rxen = s.rxen := rfl
@[simp] theorem goto_slot0 : (goto p s).slot0 = s.slot0 := rfl
@[simp] theorem goto_slot1 : (goto p s).slot1 = s.slot1 := rfl
@[simp] theorem goto_slot2 : (goto p s).slot2 = s.slot2 := rfl
@[simp] theorem goto_cmd : (goto p s).cmd = s.cmd := rfl
@[simp] theorem goto_frame : (goto p s).frame = s.frame := rfl
@[simp] theorem goto_flen : (goto p s).flen = s.flen := rfl
@[simp] theorem goto_raw : (goto p s).raw = s.raw := rfl
@[simp] theorem goto_proc : (goto p s).proc = s.proc := rfl
@[simp] theorem goto_rxTake : (goto p s).rxTake = s.rxTake := rfl
@[simp] theorem goto_txWrite : (goto p s).txWrite = s.txWrite := rfl
@[simp] theorem goto_txData : (goto p s).txData = s.txData := rfl
@[simp] theorem goto_stopAssert : (goto p s).stopAssert = s.stopAssert := rfl
@[simp] theorem goto_inId : (goto p s).inId = s.inId := rfl
@[simp] theorem goto_inputs : (goto p s).inputs = s.inputs := rfl
@[simp] theorem goto_upcoming : (goto p s).upcoming = s.upcoming := rfl
@[simp] theorem goto_tick : (goto p s).tick = s.tick := rfl
@[simp] theorem goto_trace : (goto p s).trace = s.trace := rfl
@[simp] theorem goto_errors : (goto p s).errors = s.errors := rfl
@[simp] theorem goto_encOut : (goto p s).encOut = s.encOut := rfl
end

section
variable (c : Cmd) (s : State)
@[simp] theorem setCmd_cfg : (setCmd c s).cfg = s.cfg := rfl
@[simp] theorem setCmd_ph : (setCmd c s).ph = s.ph := rfl
@[simp] theorem setCmd_rxen : (setCmd c s).rxen = s.rxen := rfl
@[simp] theorem setCmd_slot0 : (setCmd c s).slot0 = s.slot0 := rfl
@[simp] theorem setCmd_slot1 : (setCmd c s).slot1 = s.slot1 := rfl
@[simp] theorem setCmd_slot2 : (setCmd c s).slot2 = s.slot2 := rfl
@[simp] theorem setCmd_cmd : (setCmd c s).cmd = c := rfl
@[simp] theorem setCmd_frame : (setCmd c s).frame = s.frame := rfl
@[simp] theorem setCmd_flen : (setCmd c s).flen = s.flen := rfl
@[simp] theorem setCmd_raw : (setCmd c s).raw = s.raw := rfl
@[simp] theorem setCmd_proc : (setCmd c s).proc = s.proc := rfl
@[simp] theorem setCmd_rxTake : (setCmd c s).rxTake = s.rxTake := rfl
@[simp] theorem setCmd_txWrite : (setCmd c s).txWrite = s.txWrite := rfl
@[simp] theorem setCmd_txData : (setCmd c s).txData = s.txData := rfl
@[simp] theorem setCmd_stopAssert : (setCmd c s).stopAssert = s.stopAssert := rfl
@[simp] theorem setCmd_inId : (setCmd c s).inId = s.inId := rfl
@[simp] theorem setCmd_inputs : (setCmd c s).inputs = s.inputs := rfl
@[simp] theorem setCmd_upcoming : (setCmd c s).upcoming = s.upcoming := rfl
@[simp] theorem setCmd_tick : (setCmd c s).tick = s.tick := rfl
@[simp] theorem setCmd_trace : (setCmd c s).trace = s.trace := rfl
@[simp] theorem setCmd_errors : (setCmd c s).errors = s.errors := rfl
@[simp] theorem setCmd_encOut : (setCmd c s).encOut = s.encOut := rfl
end

section
variable (f : Vector LByte 10) (n : FrameLen) (s : State)
@[simp] theorem setFrame_cfg : (setFrame f n s).cfg = s.cfg := rfl
@[simp] theorem setFrame_ph : (setFrame f n s).ph = s.ph := rfl
@[simp] theorem setFrame_rxen : (setFrame f n s).rxen = s.rxen := rfl
@[simp] theorem setFrame_slot0 : (setFrame f n s).slot0 = s.slot0 := rfl
@[simp] theorem setFrame_slot1 : (setFrame f n s).slot1 = s.slot1 := rfl
@[simp] theorem setFrame_slot2 : (setFrame f n s).slot2 = s.slot2 := rfl
@[simp] theorem setFrame_cmd : (setFrame f n s).cmd = s.cmd := rfl
@[simp] theorem setFrame_frame : (setFrame f n s).frame = f := rfl
@[simp] theorem setFrame_flen : (setFrame f n s).flen = n := rfl
@[simp] theorem setFrame_raw : (setFrame f n s).raw = s.raw := rfl
@[simp] theorem setFrame_proc : (setFrame f n s).proc = s.proc := rfl
@[simp] theorem setFrame_rxTake : (setFrame f n s).rxTake = s.rxTake := rfl
@[simp] theorem setFrame_txWrite : (setFrame f n s).txWrite = s.txWrite := rfl
@[simp] theorem setFrame_txData : (setFrame f n s).txData = s.txData := rfl
@[simp] theorem setFrame_stopAssert : (setFrame f n s).stopAssert = s.stopAssert := rfl
@[simp] theorem setFrame_inId : (setFrame f n s).inId = s.inId := rfl
@[simp] theorem setFrame_inputs : (setFrame f n s).inputs = s.inputs := rfl
@[simp] theorem setFrame_upcoming : (setFrame f n s).upcoming = s.upcoming := rfl
@[simp] theorem setFrame_tick : (setFrame f n s).tick = s.tick := rfl
@[simp] theorem setFrame_trace : (setFrame f n s).trace = s.trace := rfl
@[simp] theorem setFrame_errors : (setFrame f n s).errors = s.errors := rfl
@[simp] theorem setFrame_encOut : (setFrame f n s).encOut = s.encOut := rfl
end

section
variable (raw proc : Snapshot) (s : State)
@[simp] theorem setSnapshots_cfg : (setSnapshots raw proc s).cfg = s.cfg := rfl
@[simp] theorem setSnapshots_ph : (setSnapshots raw proc s).ph = s.ph := rfl
@[simp] theorem setSnapshots_rxen : (setSnapshots raw proc s).rxen = s.rxen := rfl
@[simp] theorem setSnapshots_slot0 : (setSnapshots raw proc s).slot0 = s.slot0 := rfl
@[simp] theorem setSnapshots_slot1 : (setSnapshots raw proc s).slot1 = s.slot1 := rfl
@[simp] theorem setSnapshots_slot2 : (setSnapshots raw proc s).slot2 = s.slot2 := rfl
@[simp] theorem setSnapshots_cmd : (setSnapshots raw proc s).cmd = s.cmd := rfl
@[simp] theorem setSnapshots_frame : (setSnapshots raw proc s).frame = s.frame := rfl
@[simp] theorem setSnapshots_flen : (setSnapshots raw proc s).flen = s.flen := rfl
@[simp] theorem setSnapshots_raw : (setSnapshots raw proc s).raw = raw := rfl
@[simp] theorem setSnapshots_proc : (setSnapshots raw proc s).proc = proc := rfl
@[simp] theorem setSnapshots_rxTake : (setSnapshots raw proc s).rxTake = s.rxTake := rfl
@[simp] theorem setSnapshots_txWrite : (setSnapshots raw proc s).txWrite = s.txWrite := rfl
@[simp] theorem setSnapshots_txData : (setSnapshots raw proc s).txData = s.txData := rfl
@[simp] theorem setSnapshots_stopAssert : (setSnapshots raw proc s).stopAssert = s.stopAssert := rfl
@[simp] theorem setSnapshots_inId : (setSnapshots raw proc s).inId = s.inId := rfl
@[simp] theorem setSnapshots_inputs : (setSnapshots raw proc s).inputs = s.inputs := rfl
@[simp] theorem setSnapshots_upcoming : (setSnapshots raw proc s).upcoming = s.upcoming := rfl
@[simp] theorem setSnapshots_tick : (setSnapshots raw proc s).tick = s.tick := rfl
@[simp] theorem setSnapshots_trace : (setSnapshots raw proc s).trace = s.trace := rfl
@[simp] theorem setSnapshots_errors : (setSnapshots raw proc s).errors = s.errors := rfl
@[simp] theorem setSnapshots_encOut : (setSnapshots raw proc s).encOut = s.encOut := rfl
end

section
variable (e : Event) (s : State)
@[simp] theorem emit_cfg : (emit e s).cfg = s.cfg := rfl
@[simp] theorem emit_ph : (emit e s).ph = s.ph := rfl
@[simp] theorem emit_rxen : (emit e s).rxen = s.rxen := rfl
@[simp] theorem emit_slot0 : (emit e s).slot0 = s.slot0 := rfl
@[simp] theorem emit_slot1 : (emit e s).slot1 = s.slot1 := rfl
@[simp] theorem emit_slot2 : (emit e s).slot2 = s.slot2 := rfl
@[simp] theorem emit_cmd : (emit e s).cmd = s.cmd := rfl
@[simp] theorem emit_frame : (emit e s).frame = s.frame := rfl
@[simp] theorem emit_flen : (emit e s).flen = s.flen := rfl
@[simp] theorem emit_raw : (emit e s).raw = s.raw := rfl
@[simp] theorem emit_proc : (emit e s).proc = s.proc := rfl
@[simp] theorem emit_rxTake : (emit e s).rxTake = s.rxTake := rfl
@[simp] theorem emit_txWrite : (emit e s).txWrite = s.txWrite := rfl
@[simp] theorem emit_txData : (emit e s).txData = s.txData := rfl
@[simp] theorem emit_stopAssert : (emit e s).stopAssert = s.stopAssert := rfl
@[simp] theorem emit_inId : (emit e s).inId = s.inId := rfl
@[simp] theorem emit_inputs : (emit e s).inputs = s.inputs := rfl
@[simp] theorem emit_upcoming : (emit e s).upcoming = s.upcoming := rfl
@[simp] theorem emit_tick : (emit e s).tick = s.tick := rfl
@[simp] theorem emit_trace : (emit e s).trace = s.trace ++ [e] := rfl
@[simp] theorem emit_errors : (emit e s).errors = s.errors := rfl
@[simp] theorem emit_encOut : (emit e s).encOut = s.encOut := rfl
end

section
variable (r : ErrorRecord) (s : State)
@[simp] theorem raiseError_cfg : (raiseError r s).cfg = s.cfg := rfl
@[simp] theorem raiseError_ph : (raiseError r s).ph = s.ph := rfl
@[simp] theorem raiseError_rxen : (raiseError r s).rxen = s.rxen := rfl
@[simp] theorem raiseError_slot0 : (raiseError r s).slot0 = s.slot0 := rfl
@[simp] theorem raiseError_slot1 : (raiseError r s).slot1 = s.slot1 := rfl
@[simp] theorem raiseError_slot2 : (raiseError r s).slot2 = s.slot2 := rfl
@[simp] theorem raiseError_cmd : (raiseError r s).cmd = s.cmd := rfl
@[simp] theorem raiseError_frame : (raiseError r s).frame = s.frame := rfl
@[simp] theorem raiseError_flen : (raiseError r s).flen = s.flen := rfl
@[simp] theorem raiseError_raw : (raiseError r s).raw = s.raw := rfl
@[simp] theorem raiseError_proc : (raiseError r s).proc = s.proc := rfl
@[simp] theorem raiseError_rxTake : (raiseError r s).rxTake = s.rxTake := rfl
@[simp] theorem raiseError_txWrite : (raiseError r s).txWrite = s.txWrite := rfl
@[simp] theorem raiseError_txData : (raiseError r s).txData = s.txData := rfl
@[simp] theorem raiseError_stopAssert : (raiseError r s).stopAssert = s.stopAssert := rfl
@[simp] theorem raiseError_inId : (raiseError r s).inId = s.inId := rfl
@[simp] theorem raiseError_inputs : (raiseError r s).inputs = s.inputs := rfl
@[simp] theorem raiseError_upcoming : (raiseError r s).upcoming = s.upcoming := rfl
@[simp] theorem raiseError_tick : (raiseError r s).tick = s.tick := rfl
@[simp] theorem raiseError_trace : (raiseError r s).trace = s.trace := rfl
@[simp] theorem raiseError_errors : (raiseError r s).errors = s.errors ++ [r] := rfl
@[simp] theorem raiseError_encOut : (raiseError r s).encOut = s.encOut := rfl
end

section
variable (p : PByte) (s : State)
@[simp] theorem rxTakeByte_cfg : (rxTakeByte p s).cfg = s.cfg := rfl
@[simp] theorem rxTakeByte_ph : (rxTakeByte p s).ph = s.ph := rfl
@[simp] theorem rxTakeByte_rxen : (rxTakeByte p s).rxen = s.rxen := rfl
@[simp] theorem rxTakeByte_slot0 : (rxTakeByte p s).slot0 = s.slot0 := rfl
@[simp] theorem rxTakeByte_slot1 : (rxTakeByte p s).slot1 = s.slot1 := rfl
@[simp] theorem rxTakeByte_slot2 : (rxTakeByte p s).slot2 = s.slot2 := rfl
@[simp] theorem rxTakeByte_cmd : (rxTakeByte p s).cmd = s.cmd := rfl
@[simp] theorem rxTakeByte_frame : (rxTakeByte p s).frame = s.frame := rfl
@[simp] theorem rxTakeByte_flen : (rxTakeByte p s).flen = s.flen := rfl
@[simp] theorem rxTakeByte_raw : (rxTakeByte p s).raw = s.raw := rfl
@[simp] theorem rxTakeByte_proc : (rxTakeByte p s).proc = s.proc := rfl
@[simp] theorem rxTakeByte_rxTake : (rxTakeByte p s).rxTake = false := rfl
@[simp] theorem rxTakeByte_txWrite : (rxTakeByte p s).txWrite = s.txWrite := rfl
@[simp] theorem rxTakeByte_txData : (rxTakeByte p s).txData = s.txData := rfl
@[simp] theorem rxTakeByte_stopAssert : (rxTakeByte p s).stopAssert = s.stopAssert := rfl
@[simp] theorem rxTakeByte_inId : (rxTakeByte p s).inId = s.inId := rfl
@[simp] theorem rxTakeByte_inputs : (rxTakeByte p s).inputs = { s.inputs with rxReady := false } := rfl
@[simp] theorem rxTakeByte_upcoming : (rxTakeByte p s).upcoming = s.upcoming := rfl
@[simp] theorem rxTakeByte_tick : (rxTakeByte p s).tick = s.tick := rfl
@[simp] theorem rxTakeByte_trace : (rxTakeByte p s).trace = s.trace ++ [.rxTake p] := rfl
@[simp] theorem rxTakeByte_errors : (rxTakeByte p s).errors = s.errors := rfl
@[simp] theorem rxTakeByte_encOut : (rxTakeByte p s).encOut = s.encOut := rfl
end

section
variable (p : PByte) (s : State)
@[simp] theorem txPutByte_cfg : (txPutByte p s).cfg = s.cfg := rfl
@[simp] theorem txPutByte_ph : (txPutByte p s).ph = s.ph := rfl
@[simp] theorem txPutByte_rxen : (txPutByte p s).rxen = s.rxen := rfl
@[simp] theorem txPutByte_slot0 : (txPutByte p s).slot0 = s.slot0 := rfl
@[simp] theorem txPutByte_slot1 : (txPutByte p s).slot1 = s.slot1 := rfl
@[simp] theorem txPutByte_slot2 : (txPutByte p s).slot2 = s.slot2 := rfl
@[simp] theorem txPutByte_cmd : (txPutByte p s).cmd = s.cmd := rfl
@[simp] theorem txPutByte_frame : (txPutByte p s).frame = s.frame := rfl
@[simp] theorem txPutByte_flen : (txPutByte p s).flen = s.flen := rfl
@[simp] theorem txPutByte_raw : (txPutByte p s).raw = s.raw := rfl
@[simp] theorem txPutByte_proc : (txPutByte p s).proc = s.proc := rfl
@[simp] theorem txPutByte_rxTake : (txPutByte p s).rxTake = s.rxTake := rfl
@[simp] theorem txPutByte_txWrite : (txPutByte p s).txWrite = false := rfl
@[simp] theorem txPutByte_txData : (txPutByte p s).txData = p := rfl
@[simp] theorem txPutByte_stopAssert : (txPutByte p s).stopAssert = s.stopAssert := rfl
@[simp] theorem txPutByte_inId : (txPutByte p s).inId = s.inId := rfl
@[simp] theorem txPutByte_inputs : (txPutByte p s).inputs = s.inputs := rfl
@[simp] theorem txPutByte_upcoming : (txPutByte p s).upcoming = s.upcoming := rfl
@[simp] theorem txPutByte_tick : (txPutByte p s).tick = s.tick := rfl
@[simp] theorem txPutByte_trace : (txPutByte p s).trace = s.trace ++ [.txPut p] := rfl
@[simp] theorem txPutByte_errors : (txPutByte p s).errors = s.errors := rfl
@[simp] theorem txPutByte_encOut : (txPutByte p s).encOut = s.encOut := rfl
end

section
variable (s : State)
@[simp] theorem stopPulse_cfg : (stopPulse s).cfg = s.cfg := rfl
@[simp] theorem stopPulse_ph : (stopPulse s).ph = s.ph := rfl
@[simp] theorem stopPulse_rxen : (stopPulse s).rxen = s.rxen := rfl
@[simp] theorem stopPulse_slot0 : (stopPulse s).slot0 = s.slot0 := rfl
@[simp] theorem stopPulse_slot1 : (stopPulse s).slot1 = s.slot1 := rfl
@[simp] theorem stopPulse_slot2 : (stopPulse s).slot2 = s.slot2 := rfl
@[simp] theorem stopPulse_cmd : (stopPulse s).cmd = s.cmd := rfl
@[simp] theorem stopPulse_frame : (stopPulse s).frame = s.frame := rfl
@[simp] theorem stopPulse_flen : (stopPulse s).flen = s.flen := rfl
@[simp] theorem stopPulse_raw : (stopPulse s).raw = s.raw := rfl
@[simp] theorem stopPulse_proc : (stopPulse s).proc = s.proc := rfl
@[simp] theorem stopPulse_rxTake : (stopPulse s).rxTake = s.rxTake := rfl
@[simp] theorem stopPulse_txWrite : (stopPulse s).txWrite = s.txWrite := rfl
@[simp] theorem stopPulse_txData : (stopPulse s).txData = s.txData := rfl
@[simp] theorem stopPulse_stopAssert : (stopPulse s).stopAssert = false := rfl
@[simp] theorem stopPulse_inId : (stopPulse s).inId = s.inId := rfl
@[simp] theorem stopPulse_inputs : (stopPulse s).inputs = s.inputs := rfl
@[simp] theorem stopPulse_upcoming : (stopPulse s).upcoming = s.upcoming := rfl
@[simp] theorem stopPulse_tick : (stopPulse s).tick = s.tick := rfl
@[simp] theorem stopPulse_trace : (stopPulse s).trace = s.trace ++ [.stopPulse] := rfl
@[simp] theorem stopPulse_errors : (stopPulse s).errors = s.errors := rfl
@[simp] theorem stopPulse_encOut : (stopPulse s).encOut = s.encOut := rfl
end

section
variable (raw : Snapshot) (s : State)
@[simp] theorem readInputs_cfg : (readInputs raw s).cfg = s.cfg := rfl
@[simp] theorem readInputs_ph : (readInputs raw s).ph = s.ph := rfl
@[simp] theorem readInputs_rxen : (readInputs raw s).rxen = s.rxen := rfl
@[simp] theorem readInputs_slot0 : (readInputs raw s).slot0 = s.slot0 := rfl
@[simp] theorem readInputs_slot1 : (readInputs raw s).slot1 = s.slot1 := rfl
@[simp] theorem readInputs_slot2 : (readInputs raw s).slot2 = s.slot2 := rfl
@[simp] theorem readInputs_cmd : (readInputs raw s).cmd = s.cmd := rfl
@[simp] theorem readInputs_frame : (readInputs raw s).frame = s.frame := rfl
@[simp] theorem readInputs_flen : (readInputs raw s).flen = s.flen := rfl
@[simp] theorem readInputs_raw : (readInputs raw s).raw = s.raw := rfl
@[simp] theorem readInputs_proc : (readInputs raw s).proc = s.proc := rfl
@[simp] theorem readInputs_rxTake : (readInputs raw s).rxTake = s.rxTake := rfl
@[simp] theorem readInputs_txWrite : (readInputs raw s).txWrite = s.txWrite := rfl
@[simp] theorem readInputs_txData : (readInputs raw s).txData = s.txData := rfl
@[simp] theorem readInputs_stopAssert : (readInputs raw s).stopAssert = s.stopAssert := rfl
@[simp] theorem readInputs_inId : (readInputs raw s).inId = 21 := rfl
@[simp] theorem readInputs_inputs : (readInputs raw s).inputs = s.inputs := rfl
@[simp] theorem readInputs_upcoming : (readInputs raw s).upcoming = s.upcoming := rfl
@[simp] theorem readInputs_tick : (readInputs raw s).tick = s.tick := rfl
@[simp] theorem readInputs_trace : (readInputs raw s).trace = s.trace ++ [.inRefresh raw] := rfl
@[simp] theorem readInputs_errors : (readInputs raw s).errors = s.errors := rfl
@[simp] theorem readInputs_encOut : (readInputs raw s).encOut = s.encOut := rfl
end

section
variable (s : State)
@[simp] theorem disableReceiver_cfg : (disableReceiver s).cfg = s.cfg := rfl
@[simp] theorem disableReceiver_ph : (disableReceiver s).ph = s.ph := rfl
@[simp] theorem disableReceiver_rxen : (disableReceiver s).rxen = false := rfl
@[simp] theorem disableReceiver_slot0 : (disableReceiver s).slot0 = s.slot0 := rfl
@[simp] theorem disableReceiver_slot1 : (disableReceiver s).slot1 = s.slot1 := rfl
@[simp] theorem disableReceiver_slot2 : (disableReceiver s).slot2 = s.slot2 := rfl
@[simp] theorem disableReceiver_cmd : (disableReceiver s).cmd = s.cmd := rfl
@[simp] theorem disableReceiver_frame : (disableReceiver s).frame = s.frame := rfl
@[simp] theorem disableReceiver_flen : (disableReceiver s).flen = s.flen := rfl
@[simp] theorem disableReceiver_raw : (disableReceiver s).raw = s.raw := rfl
@[simp] theorem disableReceiver_proc : (disableReceiver s).proc = s.proc := rfl
@[simp] theorem disableReceiver_rxTake : (disableReceiver s).rxTake = s.rxTake := rfl
@[simp] theorem disableReceiver_txWrite : (disableReceiver s).txWrite = s.txWrite := rfl
@[simp] theorem disableReceiver_txData : (disableReceiver s).txData = s.txData := rfl
@[simp] theorem disableReceiver_stopAssert : (disableReceiver s).stopAssert = s.stopAssert := rfl
@[simp] theorem disableReceiver_inId : (disableReceiver s).inId = s.inId := rfl
@[simp] theorem disableReceiver_inputs : (disableReceiver s).inputs = s.inputs := rfl
@[simp] theorem disableReceiver_upcoming : (disableReceiver s).upcoming = s.upcoming := rfl
@[simp] theorem disableReceiver_tick : (disableReceiver s).tick = s.tick := rfl
@[simp] theorem disableReceiver_trace : (disableReceiver s).trace = s.trace := rfl
@[simp] theorem disableReceiver_errors : (disableReceiver s).errors = s.errors := rfl
@[simp] theorem disableReceiver_encOut : (disableReceiver s).encOut = s.encOut := rfl
end

section
variable (s : State)
@[simp] theorem enableReceiver_cfg : (enableReceiver s).cfg = s.cfg := rfl
@[simp] theorem enableReceiver_ph : (enableReceiver s).ph = s.ph := rfl
@[simp] theorem enableReceiver_rxen : (enableReceiver s).rxen = true := rfl
@[simp] theorem enableReceiver_slot0 : (enableReceiver s).slot0 = s.slot0 := rfl
@[simp] theorem enableReceiver_slot1 : (enableReceiver s).slot1 = s.slot1 := rfl
@[simp] theorem enableReceiver_slot2 : (enableReceiver s).slot2 = s.slot2 := rfl
@[simp] theorem enableReceiver_cmd : (enableReceiver s).cmd = s.cmd := rfl
@[simp] theorem enableReceiver_frame : (enableReceiver s).frame = s.frame := rfl
@[simp] theorem enableReceiver_flen : (enableReceiver s).flen = s.flen := rfl
@[simp] theorem enableReceiver_raw : (enableReceiver s).raw = s.raw := rfl
@[simp] theorem enableReceiver_proc : (enableReceiver s).proc = s.proc := rfl
@[simp] theorem enableReceiver_rxTake : (enableReceiver s).rxTake = s.rxTake := rfl
@[simp] theorem enableReceiver_txWrite : (enableReceiver s).txWrite = s.txWrite := rfl
@[simp] theorem enableReceiver_txData : (enableReceiver s).txData = s.txData := rfl
@[simp] theorem enableReceiver_stopAssert : (enableReceiver s).stopAssert = s.stopAssert := rfl
@[simp] theorem enableReceiver_inId : (enableReceiver s).inId = s.inId := rfl
@[simp] theorem enableReceiver_inputs : (enableReceiver s).inputs = s.inputs := rfl
@[simp] theorem enableReceiver_upcoming : (enableReceiver s).upcoming = s.upcoming := rfl
@[simp] theorem enableReceiver_tick : (enableReceiver s).tick = s.tick := rfl
@[simp] theorem enableReceiver_trace : (enableReceiver s).trace = s.trace := rfl
@[simp] theorem enableReceiver_errors : (enableReceiver s).errors = s.errors := rfl
@[simp] theorem enableReceiver_encOut : (enableReceiver s).encOut = s.encOut := rfl
end

section
variable (y : Sym) (s : State)
@[simp] theorem encodeLookup_cfg : (encodeLookup y s).cfg = s.cfg := rfl
@[simp] theorem encodeLookup_ph : (encodeLookup y s).ph = s.ph := rfl
@[simp] theorem encodeLookup_rxen : (encodeLookup y s).rxen = s.rxen := rfl
@[simp] theorem encodeLookup_slot0 : (encodeLookup y s).slot0 = s.slot0 := rfl
@[simp] theorem encodeLookup_slot1 : (encodeLookup y s).slot1 = s.slot1 := rfl
@[simp] theorem encodeLookup_slot2 : (encodeLookup y s).slot2 = s.slot2 := rfl
@[simp] theorem encodeLookup_cmd : (encodeLookup y s).cmd = s.cmd := rfl
@[simp] theorem encodeLookup_frame : (encodeLookup y s).frame = s.frame := rfl
@[simp] theorem encodeLookup_flen : (encodeLookup y s).flen = s.flen := rfl
@[simp] theorem encodeLookup_raw : (encodeLookup y s).raw = s.raw := rfl
@[simp] theorem encodeLookup_proc : (encodeLookup y s).proc = s.proc := rfl
@[simp] theorem encodeLookup_rxTake : (encodeLookup y s).rxTake = s.rxTake := rfl
@[simp] theorem encodeLookup_txWrite : (encodeLookup y s).txWrite = s.txWrite := rfl
@[simp] theorem encodeLookup_txData : (encodeLookup y s).txData = s.txData := rfl
@[simp] theorem encodeLookup_stopAssert : (encodeLookup y s).stopAssert = s.stopAssert := rfl
@[simp] theorem encodeLookup_inId : (encodeLookup y s).inId = s.inId := rfl
@[simp] theorem encodeLookup_inputs : (encodeLookup y s).inputs = s.inputs := rfl
@[simp] theorem encodeLookup_upcoming : (encodeLookup y s).upcoming = s.upcoming := rfl
@[simp] theorem encodeLookup_tick : (encodeLookup y s).tick = s.tick := rfl
@[simp] theorem encodeLookup_trace : (encodeLookup y s).trace = s.trace := rfl
@[simp] theorem encodeLookup_errors : (encodeLookup y s).errors = s.errors := rfl
@[simp] theorem encodeLookup_encOut : (encodeLookup y s).encOut = encodeSym s.cfg.cal y := rfl
end

end Sys2Proof.Machine
end

