-- ==== Sys2Proof/Laws/Ops.lean ====
section
/-! SUPPORT. For each shared operation, what it leaves and everything it can do; later proofs cite these and do not unfold it. -/

namespace Sys2Proof.Machine

/-! ### Raising an error, acquiring a symbol -/

@[simp] theorem raiseOpt_none (s : State) : raiseOpt none s = s := rfl
@[simp] theorem raiseOpt_some (r : ErrorRecord) (s : State) : raiseOpt (some r) s = raiseError r s := rfl

/-- `raiseOpt` writes nothing but the error record. -/
theorem raiseOpt_eq (r : Option ErrorRecord) (s : State) :
    raiseOpt r s = { s with errors := s.errors ++ r.toList } := by
  cases r <;> simp [raiseOpt, raiseError]

/-- The errors an acquisition of `p` records. -/
def acquireErrors (k : Cal) (p : PByte) : List ErrorRecord :=
  if decodeByte k p = .invalid then [.undefByte p] else []

/-- An acquisition consumes the byte, appends `RxTake -> p` and records an undefined byte; it writes nothing else. -/
theorem acquire_eq (p : PByte) (s : State) :
    acquire p s = { s with
      rxTake := false
      inputs := { s.inputs with rxReady := false }
      trace := s.trace ++ [.rxTake p]
      errors := s.errors ++ acquireErrors s.cfg.cal p } := by
  unfold acquire acquireErrors
  split <;> simp [raiseError, rxTakeByte, emit]

/-- A slot write changes the three slot groups only. -/
theorem storeSymbol_eq (n : Fin 13) (y : Sym6) (s : State) :
    storeSymbol n y s = { s with
      slot0 := if n.val < 4 then putSlot s.slot0 n.val y else s.slot0
      slot1 := if 4 ≤ n.val ∧ n.val < 8 then putSlot s.slot1 (n.val - 4) y else s.slot1
      slot2 := if 8 ≤ n.val ∧ n.val < 12 then putSlot s.slot2 (n.val - 8) y else s.slot2 } := by
  unfold storeSymbol
  split
  · simp [*, show ¬ 4 ≤ n.val by omega, show ¬ 8 ≤ n.val by omega]
  · split
    · simp [*, show 4 ≤ n.val by omega, show ¬ 8 ≤ n.val by omega]
    · split
      · simp [*, show 8 ≤ n.val by omega]
      · simp [*]

/-! ### The end of a parse -/

/-- Dispatch writes the phase, and for `Probe` also `RXEN` and the frame (R130). -/
theorem dispatch_eq (c : Cmd) (s : State) :
    dispatch c s = match c with
      | .probe => { s with ph := .tx 0, rxen := false, frame := idFrame s.frame, flen := .id3 }
      | .probeOrigin => { s with ph := .refresh }
      | .poll _ => { s with ph := .refresh }
      | .unknown => { s with ph := .rx 0 } := by
  cases c <;> rfl

/-- The end of a parse: `CMD` and the error record, then dispatch (R102, R105). -/
theorem conclude_eq (c : Cmd) (err : Option ErrorRecord) (s : State) :
    conclude c err s = dispatch c { s with cmd := c, errors := s.errors ++ err.toList } := by
  simp [conclude, raiseOpt_eq, setCmd]

/-! ### What the steps answer -/

/-- Everything a receive step can do. -/
theorem receive_next {y : Sym6} {p : PByte} {s t : State} (h : receive y p s = .next t) :
    ∃ n, s.ph = .rx n ∧
      ((rxReady s = true ∧ t = afterSymbol n y (storeSymbol n y (acquire p s))) ∨
       (rxReady s = false ∧ t = s)) := by
  unfold receive at h
  split at h
  case h_1 n hn =>
    refine ⟨n, hn, ?_⟩
    cases hr : rxReady s <;> simp_all
  case h_2 => simp at h

/-- A receive step in `RX(n)` with a byte waiting. -/
theorem receive_ready {y : Sym6} {p : PByte} {s : State} {n : Fin 13} (hn : s.ph = .rx n)
    (hr : rxReady s = true) :
    receive y p s = .next (afterSymbol n y (storeSymbol n y (acquire p s))) := by
  simp [receive, hn, hr]

/-- Everything a decode row can do: its byte must be an encoding of its symbol. -/
theorem receiveAs_next {y : Sym6} {p : PByte} {s t : State} (h : receiveAs y p s = .next t) :
    decodeByte s.cfg.cal p = y ∧ receive y p s = .next t := by
  unfold receiveAs at h
  split at h
  · exact ⟨‹_›, h⟩
  · simp at h

/-- A decode row with a byte of its own is the receive step. -/
theorem receiveAs_wf {y : Sym6} {p : PByte} {s : State} (h : decodeByte s.cfg.cal p = y) :
    receiveAs y p s = receive y p s := by
  simp [receiveAs, h]

/-- Everything a terminal step can do. -/
theorem terminal_next {n : Fin 13} {c : Cmd} {err : Option ErrorRecord} {s t : State}
    (h : terminal n c err s = .next t) :
    s.ph = .rx n ∧
      ((rxReady s = true ∧ t = conclude c err (storeSymbol n (decodeByte s.cfg.cal s.inputs.rxData)
          (acquire s.inputs.rxData s))) ∨
       (rxReady s = false ∧ t = s)) := by
  unfold terminal at h
  split at h
  · refine ⟨‹_›, ?_⟩
    cases hr : rxReady s <;> simp_all
  · simp at h

/-- Everything the refresh step can do. -/
theorem refresh_next {raw : Snapshot} {s t : State} (h : refresh raw s = .next t) :
    s.ph = .refresh ∧
      t = goto (.tx 0) (disableReceiver (buildFrame (setSnapshots raw (process raw) (readInputs raw s)))) := by
  unfold refresh at h
  split at h
  · exact ⟨‹_›, by simpa using h.symm⟩
  · simp at h

/-- `FRAME` and `FLEN` are all a frame construction writes. -/
theorem buildFrame_eq (s : State) :
    buildFrame s = { s with
      frame := if s.cmd = .probeOrigin then originTail (stateFrame s.cfg.axes s.proc s.frame)
               else stateFrame s.cfg.axes s.proc s.frame
      flen := if s.cmd = .probeOrigin then .origin10 else .state8 } := by
  unfold buildFrame
  split <;> simp [setFrame]

/-- Everything a transmit step can do. -/
theorem transmit_next {y : Sym} {s t : State} (h : transmit y s = .next t) :
    ∃ j, s.ph = .tx j ∧
      ((txReady s = true ∧ t = afterPut j (txPutByte (encodeSym s.cfg.cal y) (encodeLookup y s))) ∨
       (txReady s = false ∧ t = s)) := by
  unfold transmit at h
  split at h
  case h_1 j hj =>
    refine ⟨j, hj, ?_⟩
    cases hr : txReady s <;> simp_all
  case h_2 => simp at h

/-- After a `TxPut` only the phase moves, to the next symbol or to `DRAIN` (R146). -/
theorem afterPut_eq (j : Fin 40) (s : State) :
    afterPut j s = { s with
      ph := if h : j.val + 1 < 40 then
              (if j.val + 1 < 4 * s.flen.toNat then .tx ⟨j.val + 1, h⟩ else .drain)
            else .drain } := by
  have : s.flen.toNat ≤ 10 := by cases s.flen <;> decide
  unfold afterPut
  by_cases h : j.val + 1 < 4 * s.flen.toNat
  · simp [h, goto, show j.val + 1 < 40 by omega]
  · simp [h, goto]

/-! ### The environment -/

/-- `advance` writes nothing but what the environment drives. -/
theorem advance_core (s : State) :
    { advance s with inputs := s.inputs, upcoming := s.upcoming, tick := s.tick } = s := by
  unfold advance
  split <;> rfl

@[simp] theorem advance_cfg (s : State) : (advance s).cfg = s.cfg := by unfold advance; split <;> rfl
@[simp] theorem advance_ph (s : State) : (advance s).ph = s.ph := by unfold advance; split <;> rfl
@[simp] theorem advance_rxen (s : State) : (advance s).rxen = s.rxen := by unfold advance; split <;> rfl
@[simp] theorem advance_slot0 (s : State) : (advance s).slot0 = s.slot0 := by unfold advance; split <;> rfl
@[simp] theorem advance_slot1 (s : State) : (advance s).slot1 = s.slot1 := by unfold advance; split <;> rfl
@[simp] theorem advance_slot2 (s : State) : (advance s).slot2 = s.slot2 := by unfold advance; split <;> rfl
@[simp] theorem advance_cmd (s : State) : (advance s).cmd = s.cmd := by unfold advance; split <;> rfl
@[simp] theorem advance_frame (s : State) : (advance s).frame = s.frame := by unfold advance; split <;> rfl
@[simp] theorem advance_flen (s : State) : (advance s).flen = s.flen := by unfold advance; split <;> rfl
@[simp] theorem advance_raw (s : State) : (advance s).raw = s.raw := by unfold advance; split <;> rfl
@[simp] theorem advance_proc (s : State) : (advance s).proc = s.proc := by unfold advance; split <;> rfl
@[simp] theorem advance_rxTake (s : State) : (advance s).rxTake = s.rxTake := by unfold advance; split <;> rfl
@[simp] theorem advance_txWrite (s : State) : (advance s).txWrite = s.txWrite := by unfold advance; split <;> rfl
@[simp] theorem advance_txData (s : State) : (advance s).txData = s.txData := by unfold advance; split <;> rfl
@[simp] theorem advance_stopAssert (s : State) : (advance s).stopAssert = s.stopAssert := by
  unfold advance; split <;> rfl
@[simp] theorem advance_inId (s : State) : (advance s).inId = s.inId := by unfold advance; split <;> rfl
@[simp] theorem advance_trace (s : State) : (advance s).trace = s.trace := by unfold advance; split <;> rfl
@[simp] theorem advance_errors (s : State) : (advance s).errors = s.errors := by unfold advance; split <;> rfl
@[simp] theorem advance_encOut (s : State) : (advance s).encOut = s.encOut := by unfold advance; split <;> rfl

end Sys2Proof.Machine
end

