-- ==== Sys2Proof/Laws/PerInstr.lean ====
section
/-! SUPPORT. Statements about every instruction, one lemma per constructor. Family WordShape: the word of an
instruction has the form of its row's format (SHORT: five symbols with `STOP` at index 4; LONG: thirteen; PHYS, encode
and PAIR rows: one byte, symbol or snapshot; spec/30_encoding.md R60, R61, R62, R73). -/

namespace Sys2Proof.Laws.WordShape

/-- The format of an instruction's row in spec/opcode_table.json. -/
def formatOk : Instr → OpWord → Prop
  | .probe, .stream ys => ys.length = 5 ∧ ys[4]? = some (.sym .stop)
  | .probeOrigin, .stream ys => ys.length = 5 ∧ ys[4]? = some (.sym .stop)
  | .unknownShort _, .stream ys => ys.length = 5 ∧ ys[4]? = some (.sym .stop)
  | .poll0, .stream ys => ys.length = 13 ∧ ys[4]? ≠ some (.sym .stop)
  | .poll1, .stream ys => ys.length = 13 ∧ ys[4]? ≠ some (.sym .stop)
  | .unknownLong _ _ _ _, .stream ys => ys.length = 13 ∧ ys[4]? ≠ some (.sym .stop)
  | .decodeS00 p, .phys q => p = q
  | .decodeS01 p, .phys q => p = q
  | .decodeS10 p, .phys q => p = q
  | .decodeS11 p, .phys q => p = q
  | .decodeStop p, .phys q => p = q
  | .decodeInvalid p, .phys q => p = q
  | .encodeS00, .sym y => y = .s00
  | .encodeS01, .sym y => y = .s01
  | .encodeS10, .sym y => y = .s10
  | .encodeS11, .sym y => y = .s11
  | .encodeStop, .sym y => y = .stop
  | .clean raw, .snap m => raw = m
  | _, _ => False

/-- The word of a well-formed instruction has its row's format. -/
def Statement (i : Instr) : Prop := ∀ c : Cfg, i.wf c = true → formatOk i (encode c i)

theorem probe : Statement .probe := fun _ _ => ⟨rfl, rfl⟩
theorem probeOrigin : Statement .probeOrigin := fun _ _ => ⟨rfl, rfl⟩
theorem poll0 : Statement .poll0 := fun _ _ => ⟨rfl, fun h => by injection h with h; injection h with h; exact absurd h (by decide)⟩
theorem poll1 : Statement .poll1 := fun _ _ => ⟨rfl, fun h => by injection h with h; injection h with h; exact absurd h (by decide)⟩
theorem unknownShort (b0 : SlotGroup) : Statement (.unknownShort b0) := fun _ _ => ⟨rfl, rfl⟩
theorem unknownLong (b0 b1 b2 : SlotGroup) (x : Sym6) : Statement (.unknownLong b0 b1 b2 x) := by
  intro c h
  simp only [Instr.wf, Bool.and_eq_true, bne_iff_ne] at h
  exact ⟨rfl, by simpa [encode, SlotGroup.syms] using h.1⟩
theorem decodeS00 (p : PByte) : Statement (.decodeS00 p) := fun _ _ => rfl
theorem decodeS01 (p : PByte) : Statement (.decodeS01 p) := fun _ _ => rfl
theorem decodeS10 (p : PByte) : Statement (.decodeS10 p) := fun _ _ => rfl
theorem decodeS11 (p : PByte) : Statement (.decodeS11 p) := fun _ _ => rfl
theorem decodeStop (p : PByte) : Statement (.decodeStop p) := fun _ _ => rfl
theorem decodeInvalid (p : PByte) : Statement (.decodeInvalid p) := fun _ _ => rfl
theorem encodeS00 : Statement .encodeS00 := fun _ _ => rfl
theorem encodeS01 : Statement .encodeS01 := fun _ _ => rfl
theorem encodeS10 : Statement .encodeS10 := fun _ _ => rfl
theorem encodeS11 : Statement .encodeS11 := fun _ _ => rfl
theorem encodeStop : Statement .encodeStop := fun _ _ => rfl
theorem clean (raw : Snapshot) : Statement (.clean raw) := fun _ _ => rfl

end Sys2Proof.Laws.WordShape
end

