-- ==== Sys2Proof/Laws/Step.lean ====
section
/-! SUPPORT. What one step can do, said once: every proof about `step` and `run` starts from `step_eq`, and none has to
unfold `exec`. -/

namespace Sys2Proof.Machine

/-- The core's own part of a step, by phase. -/
def effect (s : State) : State :=
  match s.ph with
  | .rx n =>
    if rxReady s then
      let y := decodeByte s.cfg.cal s.inputs.rxData
      afterSymbol n y (storeSymbol n y (acquire s.inputs.rxData s))
    else s
  | .refresh =>
    goto (.tx 0) (disableReceiver (buildFrame
      (setSnapshots s.inputs.buttons (process s.inputs.buttons) (readInputs s.inputs.buttons s))))
  | .tx j =>
    if txReady s then afterPut j (txPutByte (txByte s.cfg.cal s.frame j) (encodeLookup (txSym s.frame j) s)) else s
  | .drain => drain s
  | .stopp => stopStep s

/-! ### exec as the shared operations -/

/-- The decode row of a byte is the receive step that takes it. -/
theorem exec_decodePhys (p : PByte) (s : State) :
    exec (decodePhys s.cfg.cal p) s = receive (decodeByte s.cfg.cal p) p s := by
  unfold decodePhys
  split <;> rename_i h <;>
    simp [exec, execDecodeS00, execDecodeS01, execDecodeS10, execDecodeS11, execDecodeStop, execDecodeInvalid,
      receiveAs, h]

/-- The command a `STOP` in `RX(4)` ends is the receive step that takes that `STOP`. -/
theorem exec_decodeShort {s : State} (hp : s.ph = .rx 4) (hr : rxReady s = true)
    (hy : decodeByte s.cfg.cal s.inputs.rxData = .sym .stop) :
    exec (decodeShort s.cfg s.slot0) s = receive (.sym .stop) s.inputs.rxData s := by
  rw [receive_ready hp hr]
  unfold afterSymbol concludeShort
  have hs : (storeSymbol 4 (.sym .stop) (acquire s.inputs.rxData s)).slot0 = s.slot0 := by
    simp [storeSymbol_eq, acquire_eq]
  have hc : (storeSymbol 4 (.sym .stop) (acquire s.inputs.rxData s)).cfg = s.cfg := by
    simp [storeSymbol_eq, acquire_eq]
  have hn : ∀ r, classifyShort s.cfg s.slot0 ≠ .poll r := by
    intro r
    unfold classifyShort
    split_ifs <;> simp
  simp only [decodeShort, hs, hc]
  cases hcl : classifyShort s.cfg s.slot0 <;>
    simp_all [exec, execProbe, execProbeOrigin, execUnknownShort, terminal, shortError]

/-- The command the thirteenth symbol ends is the receive step that takes that symbol. -/
theorem exec_decodeLong {s : State} {y : Sym6} (hp : s.ph = .rx 12) (hr : rxReady s = true)
    (hy : decodeByte s.cfg.cal s.inputs.rxData = y) :
    exec (decodeLong s.cfg s.slot0 s.slot1 s.slot2 y) s = receive y s.inputs.rxData s := by
  subst hy
  rw [receive_ready hp hr]
  unfold afterSymbol concludeLong
  have h0 : ∀ y, (storeSymbol 12 y (acquire s.inputs.rxData s)).slot0 = s.slot0 := by simp [storeSymbol_eq, acquire_eq]
  have h1 : ∀ y, (storeSymbol 12 y (acquire s.inputs.rxData s)).slot1 = s.slot1 := by simp [storeSymbol_eq, acquire_eq]
  have h2 : ∀ y, (storeSymbol 12 y (acquire s.inputs.rxData s)).slot2 = s.slot2 := by simp [storeSymbol_eq, acquire_eq]
  have hc : ∀ y, (storeSymbol 12 y (acquire s.inputs.rxData s)).cfg = s.cfg := by simp [storeSymbol_eq, acquire_eq]
  have hn : classifyLong s.cfg s.slot0 s.slot1 s.slot2 ≠ .probe ∧
      classifyLong s.cfg s.slot0 s.slot1 s.slot2 ≠ .probeOrigin := by
    unfold classifyLong
    split_ifs <;> simp
  simp only [decodeLong, h0, h1, h2, hc]
  rcases hcl : classifyLong s.cfg s.slot0 s.slot1 s.slot2 with _ | _ | r | _
  · simp_all
  · simp_all
  · cases r <;> simp_all [exec, execPoll0, execPoll1, terminal, longError]
  · simp_all [exec, execUnknownLong, terminal, longError]

/-- The encode row of a data symbol is the transmit step that sends it. -/
theorem exec_decodeSymRow {y : Sym} (h : y ≠ .stop) (s : State) : exec (decodeSymRow y) s = transmit y s := by
  cases y <;> first | rfl | exact absurd rfl h

/-! ### The step -/

/-- Everything a step can do when `CFG` meets its constraints: the effect of its phase, then the environment moves on. -/
theorem step_eq {s : State} (hc : s.cfg.wf = true) : step s = .next (advance (effect s)) := by
  unfold step effect
  simp only [hc, if_true]
  cases hp : s.ph with
  | rx n =>
    cases hr : rxReady s
    · simp [fetch, hp, hr, portStep]
    · simp only [fetch, hp, hr, if_true]
      have : exec (receiveInstr n s) s = receive (decodeByte s.cfg.cal s.inputs.rxData) s.inputs.rxData s := by
        unfold receiveInstr
        simp only
        split_ifs with h1 h2
        · rw [h1.2]
          exact exec_decodeShort (by rw [hp]; congr 1; exact Fin.ext h1.1) hr h1.2
        · exact exec_decodeLong (by rw [hp]; congr 1; exact Fin.ext h2) hr rfl
        · exact exec_decodePhys _ _
      rw [this, receive_ready hp hr]
      rfl
  | refresh => simp [fetch, hp, exec, execClean, refresh, thenAdvance]
  | tx j =>
    cases hr : txReady s
    · simp [fetch, hp, hr, portStep]
    · simp only [fetch, hp, hr, if_true]
      rw [exec_decodeSymRow (y := txSym s.frame j) (symAt_ne_stop _ _)]
      simp [transmit, hp, hr, thenAdvance, txByte]
  | drain => simp [fetch, hp, portStep]
  | stopp => simp [fetch, hp, portStep]

/-- A step that answers a next state: `CFG` meets its constraints and the state is the effect, advanced. -/
theorem step_next {s t : State} (h : step s = .next t) : s.cfg.wf = true ∧ t = advance (effect s) := by
  by_cases hc : s.cfg.wf = true
  · rw [step_eq hc] at h
    exact ⟨hc, by simpa using h.symm⟩
  · simp [step, hc] at h

/-! ### Runs -/

theorem run_zero (s : State) : run 0 s = .next s := rfl

theorem run_succ {k : Nat} {s t : State} (h : step s = .next t) : run (k + 1) s = run k t := by
  simp only [run, h, andThen]

/-- A run of `k + l` steps is a run of `k` and one of `l` from where it ends. -/
theorem run_add (k l : Nat) : ∀ {s t : State}, run k s = .next t → run (k + l) s = run l t := by
  induction k with
  | zero =>
    intro s t h
    have h : s = t := by simpa [run] using h
    subst h
    simp
  | succ k ih =>
    intro s t h
    rw [show k + 1 + l = (k + l) + 1 by omega]
    simp only [run, andThen] at h ⊢
    cases hs : step s with
    | next u => rw [hs] at h; exact ih h
    | fault r => rw [hs] at h; simp at h
    | refused r => rw [hs] at h; simp at h

end Sys2Proof.Machine
end

