-- ==== Sys2Proof/Tests/Slice0.lean ====
section
/-! SUPPORT. The model's own tests: expected results are the vectors of spec/95_test_vectors.md (their names stand in the
docstrings), under its illustrative configuration EX1, which is not the hardware's (decision D26); and for each statement a
witness that its hypotheses can be met. -/

namespace Sys2Proof.Tests

open Sys2Proof Sys2Proof.Machine

/-! ### EX1 and small states -/

/-- The configuration EX1 of spec/95_test_vectors.md section 0. -/
def ex1 : Cfg where
  cal := ⟨0x08, 0x88, 0xE8, 0xC8, 0x0F, 0x8F, 0xEF, 0xCF, 0xFF⟩
  cmdB0Probe := 0x00
  cmdB0Origin := 0x04
  cmdB0Poll := 0x04
  axes := ⟨⟨0x80, 0x00, 0xFF, 0x40, 0xC0⟩, ⟨0x80, 0x00, 0xFF, 0x40, 0xC0⟩, ⟨0x80, 0x00, 0xFF⟩, ⟨0x80, 0x00, 0xFF⟩⟩
  tStop := 0

/-- EX1 with two equal calibration bytes (V-C5). -/
def badCal : Cfg := { ex1 with cal := { ex1.cal with b := ex1.cal.c } }

/-- Every readiness condition holds; the received byte is `p`, the inputs are `m`. -/
def ready (p : PByte) (m : Snapshot) : Inputs := ⟨true, p, true, true, m⟩

/-- No readiness condition holds. -/
def quiet : Inputs := ⟨false, 0, false, false, Snapshot.neutral⟩

/-- EX1 at reset, moved to phase `ph`, with the inputs `e` now and at the next moment. -/
def atPhase (ph : Phase) (e : Inputs) : State :=
  { State.reset with cfg := ex1, ph := ph, rxen := receiverPhase ph, inputs := e, upcoming := [e] }

/-- `atPhase` with the logical bytes `v0`, `v1`, `v2` in the slots. -/
def withSlots (v0 v1 v2 : LByte) (s : State) : State :=
  { s with slot0 := groupOf v0, slot1 := groupOf v1, slot2 := groupOf v2 }

/-- In `RX(4)` after the four symbols of `v0`, with byte `p` waiting. -/
def shortEnd (v0 : LByte) (p : PByte) : State := withSlots v0 0 0 (atPhase (.rx 4) (ready p Snapshot.neutral))

/-- In `RX(12)` after the twelve symbols of `v0`, `v1`, `v2`, with byte `p` waiting. -/
def longEnd (v0 v1 v2 : LByte) (p : PByte) : State :=
  withSlots v0 v1 v2 (atPhase (.rx 12) (ready p Snapshot.neutral))

/-- In `TX(j)` with an ID3 frame. -/
def sending (j : Fin 40) : State :=
  { atPhase (.tx j) (ready 0 Snapshot.neutral) with cmd := .probe, frame := idFrame State.reset.frame, flen := .id3 }

/-- In `REFRESH` for `c`, with the inputs `m`. -/
def refreshing (c : Cmd) (m : Snapshot) : State := { atPhase .refresh (ready 0 m) with cmd := c }

/-- The next state, if there is one. -/
def nextOf (o : Host.Outcome State Fault Refusal) : Option State :=
  match o with
  | .next t => some t
  | .fault _ => none
  | .refused _ => none

/-- `f` of the next state. -/
def see {α : Type} (f : State → α) (o : Host.Outcome State Fault Refusal) : Option α := (nextOf o).map f

/-! ### Configuration -/

theorem test_ex1_wf : ex1.wf = true := by decide
/-- V-C5, R93. -/
theorem test_equal_cal_refused : badCal.wf = false := by decide
/-- R5: the probe and origin constants differ. -/
theorem test_equal_probe_origin_refused : ({ ex1 with cmdB0Origin := 0x00 } : Cfg).wf = false := by decide
/-- R5, R137: tilt differs from full, on both axes and in both directions. -/
theorem test_tilt_equal_full_refused :
    ({ ex1 with axes := { ex1.axes with mx := { ex1.axes.mx with tiltNeg := 0x00 } } } : Cfg).wf = false ∧
    ({ ex1 with axes := { ex1.axes with my := { ex1.axes.my with tiltPos := 0xFF } } } : Cfg).wf = false := by decide
/-- U13: step refuses such a configuration by name. -/
theorem test_step_refuses_bad_cfg :
    step { atPhase (.rx 0) quiet with cfg := badCal } = .refused .configuration := rfl

/-! ### WellFormed: an ill-formed term for each check -/

theorem test_unknownShort_not_probe : (Instr.unknownShort (groupOf 0x00)).wf ex1 = false := by decide
theorem test_unknownShort_not_origin : (Instr.unknownShort (groupOf 0x04)).wf ex1 = false := by decide
theorem test_unknownLong_fifth_not_stop :
    (Instr.unknownLong (groupOf 0x00) ⟨.sym .stop, .invalid, .invalid, .invalid⟩ (groupOf 0) .invalid).wf ex1 = false := by
  decide
theorem test_unknownLong_not_poll0 :
    (Instr.unknownLong (groupOf 0x04) (groupOf 0x0F) (groupOf 0x00) (.sym .stop)).wf ex1 = false := by decide
theorem test_unknownLong_not_poll1 :
    (Instr.unknownLong (groupOf 0x04) (groupOf 0x0F) (groupOf 0x01) .invalid).wf ex1 = false := by decide
theorem test_decode_rows_ill_formed :
    (Instr.decodeS00 0xE8).wf ex1 = false ∧ (Instr.decodeS01 0x08).wf ex1 = false ∧
    (Instr.decodeS10 0xEF).wf ex1 = false ∧ (Instr.decodeS11 0x0F).wf ex1 = false ∧
    (Instr.decodeStop 0xFE).wf ex1 = false ∧ (Instr.decodeInvalid 0xFF).wf ex1 = false := by decide

/-! ### Decoding, each constructor by a word written out from the spec -/

/-- V-P1, V-P2: `00 00 00 00 S`, `00 00 01 00 S`. -/
theorem test_decode_short_commands :
    decode ex1 (.stream [.sym .s00, .sym .s00, .sym .s00, .sym .s00, .sym .stop]) = .ok .probe ∧
    decode ex1 (.stream [.sym .s00, .sym .s00, .sym .s01, .sym .s00, .sym .stop]) = .ok .probeOrigin := ⟨rfl, rfl⟩
/-- V-P3: `00 00 01 00 / 00 00 11 11 / 00 00 00 00 / S`. -/
theorem test_decode_poll0 :
    decode ex1 (.stream [.sym .s00, .sym .s00, .sym .s01, .sym .s00, .sym .s00, .sym .s00, .sym .s11, .sym .s11,
      .sym .s00, .sym .s00, .sym .s00, .sym .s00, .sym .stop]) = .ok .poll0 := rfl
/-- V-P5: as V-P4 with the thirteenth symbol `11`, which is not examined. -/
theorem test_decode_poll1_thirteenth_not_examined :
    decode ex1 (.stream [.sym .s00, .sym .s00, .sym .s01, .sym .s00, .sym .s00, .sym .s00, .sym .s11, .sym .s11,
      .sym .s00, .sym .s00, .sym .s00, .sym .s01, .sym .s11]) = .ok .poll1 := rfl
/-- V-P13: `00 S 00 00 S`. -/
theorem test_decode_unknown_short :
    decode ex1 (.stream [.sym .s00, .sym .stop, .sym .s00, .sym .s00, .sym .stop])
      = .ok (.unknownShort ⟨.sym .s00, .sym .stop, .sym .s00, .sym .s00⟩) := rfl
/-- V-P11: `00 00 01 00 / X 00 11 11 / 00 00 00 00 / S`; `INVALID` at index 4 is not `STOP`. -/
theorem test_decode_unknown_long :
    decode ex1 (.stream [.sym .s00, .sym .s00, .sym .s01, .sym .s00, .invalid, .sym .s00, .sym .s11, .sym .s11,
      .sym .s00, .sym .s00, .sym .s00, .sym .s00, .sym .stop])
      = .ok (.unknownLong (groupOf 0x04) ⟨.invalid, .sym .s00, .sym .s11, .sym .s11⟩ (groupOf 0x00) (.sym .stop)) := rfl
/-- V-C1: the decode rows on the bytes of EX1. -/
theorem test_decode_phys :
    [0x08, 0x88, 0xE8, 0xC8, 0x0F, 0x8F, 0xEF, 0xCF, 0xFF, 0x00, 0x09, 0xFE, 0x80].map (decodePhys ex1.cal) =
      [.decodeS00 0x08, .decodeS00 0x88, .decodeS01 0xE8, .decodeS01 0xC8, .decodeS10 0x0F, .decodeS10 0x8F,
       .decodeS11 0xEF, .decodeS11 0xCF, .decodeStop 0xFF, .decodeInvalid 0x00, .decodeInvalid 0x09,
       .decodeInvalid 0xFE, .decodeInvalid 0x80] := by decide
/-- The encode rows and the PAIR row. -/
theorem test_decode_other_rows :
    [Sym.s00, .s01, .s10, .s11, .stop].map decodeSymRow =
      [.encodeS00, .encodeS01, .encodeS10, .encodeS11, .encodeStop] ∧
    decode ex1 (.snap Snapshot.neutral) = .ok (.clean Snapshot.neutral) := ⟨by decide, rfl⟩
/-- R73: a stream that ends early, or goes on, is no command. -/
theorem test_decode_rejects :
    decode ex1 (.stream [.sym .s00, .sym .s00, .sym .s01]) = .error .truncated ∧
    decode ex1 (.stream [.sym .s00, .sym .s00, .sym .s00, .sym .s00, .sym .stop, .sym .s00]) = .error .trailing :=
  ⟨rfl, rfl⟩
/-- V-P17: alternates decode alike; what follows the command is left. -/
theorem test_decode_bytes_alternates :
    decodeBytes ex1 [0x88, 0x88, 0xC8, 0x88, 0x88, 0x88, 0xCF, 0xCF, 0x88, 0x88, 0x88, 0xC8, 0xFF, 0x08]
      = .ok (.poll1, [0x08]) := rfl
/-- The rows of spec/opcode_table.json that have a number. -/
theorem test_table_words :
    decodeTableWord 8 0x00 = some .probe ∧ decodeTableWord 8 0x04 = some .probeOrigin ∧
    decodeTableWord 24 0x040F00 = some .poll0 ∧ decodeTableWord 24 0x040F01 = some .poll1 ∧
    decodeTableWord 16 0 = none := ⟨rfl, rfl, rfl, rfl, rfl⟩
/-- V-P7, V-P9: byte 1 = 0x03; byte 0 = 0x40. -/
theorem test_table_words_unknown :
    decodeTableWord 24 0x040300 = some (.unknownLong (groupOf 0x04) (groupOf 0x03) (groupOf 0x00) (.sym .stop)) ∧
    decodeTableWord 8 0x40 = some (.unknownShort (groupOf 0x40)) := ⟨rfl, rfl⟩
/-- V-C4. -/
theorem test_syms :
    symsOf 0x09 = [.s00, .s00, .s10, .s01] ∧ symsOf 0x40 = [.s01, .s00, .s00, .s00] ∧
    symsOf 0xB4 = [.s10, .s11, .s01, .s00] := by decide
/-- R74: the encoder on `POLL 1`. -/
theorem test_encode_poll1 :
    encode ex1 .poll1 = .stream [.sym .s00, .sym .s00, .sym .s01, .sym .s00, .sym .s00, .sym .s00, .sym .s11, .sym .s11,
      .sym .s00, .sym .s00, .sym .s00, .sym .s01, .sym .stop] := by decide

/-! ### One step of each instruction -/

/-- S-A: `PROBE`; frame `09 00 03`, receiver off. -/
theorem test_probe :
    see (fun t => (t.cmd, t.ph, t.rxen, t.frame.toList.take 3)) (step (shortEnd 0x00 0xFF))
      = some (.probe, .tx 0, false, [0x09, 0x00, 0x03]) := by decide
/-- V-P2: `PROBEORIGIN`; the receiver stays on until the refresh. -/
theorem test_probeOrigin :
    see (fun t => (t.cmd, t.ph, t.rxen, t.trace)) (step (shortEnd 0x04 0xFF))
      = some (.probeOrigin, .refresh, true, [.rxTake 0xFF]) := by decide
/-- V-P3. -/
theorem test_poll0 :
    see (fun t => (t.cmd, t.ph)) (step (longEnd 0x04 0x0F 0x00 0xFF)) = some (.poll false, .refresh) := by decide
/-- V-P5: the thirteenth byte is the one for `11`. -/
theorem test_poll1 :
    see (fun t => (t.cmd, t.ph)) (step (longEnd 0x04 0x0F 0x01 0xEF)) = some (.poll true, .refresh) := by decide
/-- R202: an undefined thirteenth byte is recorded and changes nothing. -/
theorem test_poll1_undefined_thirteenth :
    see (fun t => (t.cmd, t.ph, t.errors)) (step (longEnd 0x04 0x0F 0x01 0x00))
      = some (.poll true, .refresh, [.undefByte 0x00]) := by decide
/-- V-P9, S-E: no response, back to `RX(0)`, the receiver stays on. -/
theorem test_unknownShort :
    see (fun t => (t.cmd, t.ph, t.rxen, t.errors)) (step (shortEnd 0x40 0xFF))
      = some (.unknown, .rx 0, true, [.unknownCmdShort (groupOf 0x40)]) := by decide
/-- V-P8: byte 2 = 0x02. -/
theorem test_unknownLong :
    see (fun t => (t.cmd, t.ph, t.errors)) (step (longEnd 0x04 0x0F 0x02 0xFF))
      = some (.unknown, .rx 0, [.unknownCmdLong (groupOf 0x04) (groupOf 0x0F) (groupOf 0x02)]) := by decide
/-- R102: not `STOP` at index 4 goes on, and the symbol is byte 1's first slot. -/
theorem test_decodeS00_at_four :
    see (fun t => (t.ph, t.slot1.k0, t.cmd)) (step (shortEnd 0x00 0x88)) = some (.rx 5, .sym .s00, .unknown) := by decide
/-- R101: slot 2 of byte 0. -/
theorem test_decodeS01 :
    see (fun t => (t.ph, t.slot0.syms)) (step (atPhase (.rx 2) (ready 0xC8 Snapshot.neutral)))
      = some (.rx 3, [.sym .s00, .sym .s00, .sym .s01, .sym .s00]) := by decide
/-- R104: slot 0 of byte 2. -/
theorem test_decodeS10 :
    see (fun t => (t.ph, t.slot2.syms)) (step (atPhase (.rx 8) (ready 0x0F Snapshot.neutral)))
      = some (.rx 9, [.sym .s10, .sym .s00, .sym .s00, .sym .s00]) := by decide
/-- R103: slot 3 of byte 1. -/
theorem test_decodeS11 :
    see (fun t => (t.ph, t.slot1.syms)) (step (atPhase (.rx 7) (ready 0xEF Snapshot.neutral)))
      = some (.rx 8, [.sym .s00, .sym .s00, .sym .s00, .sym .s11]) := by decide
/-- V-P12: a `STOP` at index 5 does not end the read. -/
theorem test_decodeStop_at_five :
    see (fun t => (t.ph, t.slot1.k1, t.errors)) (step (atPhase (.rx 5) (ready 0xFF Snapshot.neutral)))
      = some (.rx 6, .sym .stop, []) := by decide
/-- R119: `INVALID` fills its slot and is recorded. -/
theorem test_decodeInvalid :
    see (fun t => (t.ph, t.slot0.k0, t.errors)) (step (atPhase (.rx 0) (ready 0x80 Snapshot.neutral)))
      = some (.rx 1, .invalid, [.undefByte 0x80]) := by decide
/-- V-T1: `TXB(0..11) = A A E C A A A A A A A G`, and the phase after each. -/
theorem test_encode_rows_probe_response :
    (List.ofFn fun j : Fin 12 => txByte ex1.cal (idFrame State.reset.frame) ⟨j.val, by omega⟩)
      = [0x08, 0x08, 0x0F, 0xE8, 0x08, 0x08, 0x08, 0x08, 0x08, 0x08, 0x08, 0xEF] := by decide
theorem test_encodeS00 :
    see (fun t => (t.txData, t.ph, t.txWrite)) (step (sending 0)) = some (0x08, .tx 1, false) := by decide
theorem test_encodeS01 :
    see (fun t => (t.txData, t.ph)) (step (sending 3)) = some (0xE8, .tx 4) := by decide
/-- R146's example: `PH = TX(2)`, `FRAME[0] = 0x09`: `TxPut(E)`, `PH = TX(3)`. -/
theorem test_encodeS10 :
    see (fun t => (t.trace, t.ph)) (step (sending 2)) = some ([.txPut 0x0F], .tx 3) := by decide
/-- The last byte of the response: `G`, then `DRAIN`. -/
theorem test_encodeS11 :
    see (fun t => (t.txData, t.ph, t.rxen)) (step (sending 11)) = some (0xEF, .drain, false) := by decide
/-- V-C2, R97: the lookup gives `I` and transmits nothing. -/
theorem test_encodeStop :
    see (fun t => (t.encOut, t.ph, t.trace)) (exec .encodeStop (sending 2)) = some (0xFF, .tx 2, []) := by decide
/-- V-F4, `MS_LEFT`, `MS_RIGHT`, `MS_DOWN`, `TILT`, for `POLL 0`: `00 80 80 40 80 80 00 00`. -/
theorem test_clean_poll :
    see (fun t => (t.frame.toList.take 8, t.flen, t.ph, t.rxen))
      (step (refreshing (.poll false)
        { Snapshot.neutral with msLeft := .pushed, msRight := .pushed, msDown := .pushed, tilt := .pushed }))
      = some ([0x00, 0x80, 0x80, 0x40, 0x80, 0x80, 0x00, 0x00], .state8, .tx 0, false) := by decide
/-- Program 2: the frame `08 C8 80 C0 FF 80 00 00 00 00` for `PROBEORIGIN`. -/
theorem test_clean_origin :
    see (fun t => (t.frame.toList, t.flen, t.proc.dpadLeft))
      (step (refreshing .probeOrigin
        { Snapshot.neutral with
          dpadLeft := .pushed, dpadRight := .pushed, dpadUp := .pushed, msUp := .pushed, tilt := .pushed,
          csRight := .pushed, l := .pushed, y := .pushed, macroBtn := .pushed }))
      = some ([0x08, 0xC8, 0x80, 0xC0, 0xFF, 0x80, 0x00, 0x00, 0x00, 0x00], .origin10, .released) := by decide
/-- V-F2: `L`, `R`, `Z`, `DPAD_UP`, `DPAD_RIGHT`: 0xF9; V-F1: `A`, `B`, `X`, `Y`, `START`: 0x1F. -/
theorem test_button_bytes :
    frameByte1 { Snapshot.neutral with
      l := .pushed, r := .pushed, z := .pushed, dpadUp := .pushed, dpadRight := .pushed } = 0xF9 ∧
    frameByte0 { Snapshot.neutral with
      a := .pushed, b := .pushed, x := .pushed, y := .pushed, start := .pushed } = 0x1F := by decide
/-- V-F4: `CS_LEFT`, `CS_UP`, `TILT`: no tilt on the C-stick; `MS_RIGHT`, `MS_UP`, `TILT`: reduced. -/
theorem test_axes :
    axC ex1.axes.cx .pushed .released = 0x00 ∧ axC ex1.axes.cy .released .pushed = 0xFF ∧
    axMain ex1.axes.mx .released .pushed .pushed = 0xC0 ∧ axMain ex1.axes.my .pushed .pushed .pushed = 0x80 := by decide
/-- V-T5, R148: the stop step. -/
theorem test_stop_step :
    see (fun t => (t.ph, t.rxen, t.trace, t.stopAssert)) (step (atPhase .stopp quiet))
      = some (.rx 0, true, [.stopPulse], false) := by decide
/-- V-T4: `DRAIN` without transmit-complete stays; with it goes on. -/
theorem test_drain :
    see (fun t => t.ph) (step (atPhase .drain quiet)) = some .drain ∧
    see (fun t => t.ph) (step (atPhase .drain (ready 0 Snapshot.neutral))) = some .stopp := by decide
/-- V-T3: stuck in `TX(6)`. -/
theorem test_tx_waits :
    see (fun t => (t.ph, t.trace)) (step { sending 6 with inputs := quiet }) = some (.tx 6, []) := by decide
/-- V-P14: stuck in `RX(3)`. -/
theorem test_rx_waits :
    see (fun t => (t.ph, t.trace)) (step (atPhase (.rx 3) quiet)) = some (.rx 3, []) := by decide
/-- R16, R54: while `RXEN = 0` a byte on the line is not received. -/
theorem test_no_receive_while_disabled :
    see (fun t => (t.ph, t.trace)) (step { shortEnd 0x00 0xFF with rxen := false }) = some (.rx 4, []) := by decide
/-- Assumption log 14: the table's words, each placed right after reset, are what the next step runs. (By proof: the kernel
cannot evaluate a decision on the calibration bytes, which have no known value.) -/
theorem test_placed_words_run :
    fetch (State.reset.withFetchWord 8 0x00) = some .probe ∧ fetch (State.reset.withFetchWord 8 0x04) = some .probeOrigin ∧
    fetch (State.reset.withFetchWord 24 0x040F00) = some .poll0 ∧
    fetch (State.reset.withFetchWord 24 0x040F01) = some .poll1 := by
  have h : decodeByte hardwired.cal hardwired.cal.i = .sym .stop := decodeByte_stop (Cfg.wf_distinct hardwired_wf)
  refine ⟨?_, ?_, rfl, rfl⟩
  all_goals
    simp [fetch, State.withFetchWord, State.reset, stopPending, rxReady, receiveInstr, h]
    rfl
theorem test_placed_words_step :
    (∃ t, step (State.reset.withFetchWord 8 0x00) = .next t) ∧
    (∃ t, step (State.reset.withFetchWord 24 0x040F01) = .next t) :=
  ⟨⟨_, step_eq hardwired_wf⟩, ⟨_, step_eq hardwired_wf⟩⟩

/-! ### Witnesses: the hypotheses of the statements can be met -/

theorem witness_DecodeRecognisedBytes : ex1.cal.distinct = true ∧
    [0x08, 0x88, 0xE8, 0xC8, 0x0F, 0x8F, 0xEF, 0xCF, 0xFF].map (decodeByte ex1.cal) =
      [.sym .s00, .sym .s00, .sym .s01, .sym .s01, .sym .s10, .sym .s10, .sym .s11, .sym .s11, .sym .stop] := by decide
theorem witness_UnrecognisedBytesAreInvalid : ex1.cal.distinct = true ∧ (0x00 : PByte) ∉ ex1.cal.bytes ∧
    (0xFE : PByte) ∉ ex1.cal.bytes ∧ (0xFF : PByte) ∈ ex1.cal.bytes := by decide
/-- V-C3. -/
theorem witness_CodecRoundTrip : ex1.cal.distinct = true ∧
    (∃ s, decodeByte ex1.cal 0x08 = .sym s ∧ encodeSym ex1.cal s = 0x08) ∧
    decodeByte ex1.cal 0x88 = .sym .s00 ∧ encodeSym ex1.cal .s00 ≠ 0x88 :=
  ⟨by decide, ⟨.s00, by decide, by decide⟩, by decide, by decide⟩
theorem witness_GroupMatchIsByteValue :
    groupValue (groupOf 0xB4) = some 0xB4 ∧
    (∃ y ∈ (⟨.sym .s00, .sym .stop, .sym .s00, .sym .s00⟩ : SlotGroup).syms, y = .invalid ∨ y = .sym .stop) ∧
    (∃ y ∈ (⟨.sym .s00, .sym .s00, .sym .s00, .invalid⟩ : SlotGroup).syms, y = .invalid ∨ y = .sym .stop) := by decide
theorem witness_ClassificationByByteValue : ex1.wf = true ∧
    groupValue (groupOf 0x00) = some ex1.cmdB0Probe ∧ groupValue (groupOf 0x04) = some ex1.cmdB0Poll ∧
    groupValue (groupOf 0x0F) = some 0x0F ∧ groupValue (groupOf 0x01) = some 0x01 := by decide
/-- V-P10, V-P13, V-P11: a bad slot in each group. -/
theorem witness_BadSlotMakesUnknown :
    (∃ y ∈ (⟨.sym .s00, .sym .stop, .sym .s00, .sym .s00⟩ : SlotGroup).syms, y = .invalid ∨ y = .sym .stop) ∧
    (∃ y ∈ (groupOf 0x04).syms ++ (⟨.invalid, .sym .s00, .sym .s11, .sym .s11⟩ : SlotGroup).syms ++ (groupOf 0).syms,
      y = .invalid ∨ y = .sym .stop) ∧
    (∃ y ∈ (groupOf 0x04).syms ++ (groupOf 0x0F).syms ++ (⟨.sym .s00, .sym .s00, .sym .s00, .sym .stop⟩ : SlotGroup).syms,
      y = .invalid ∨ y = .sym .stop) := by decide
/-- Streams of 5, 13 and 12 symbols, and of none: the three clauses at their boundaries. -/
theorem witness_CommandLengthByFifthSymbol :
    ([.sym .s00, .sym .s00, .sym .s00, .sym .s00, .sym .stop] : List Sym6)[4]? = some (.sym .stop) ∧
    ((List.replicate 13 (.sym .s00) : List Sym6)[4]? ≠ some (.sym .stop) ∧
      13 ≤ (List.replicate 13 (Sym6.sym .s00)).length) ∧
    ((List.replicate 12 (.sym .s00) : List Sym6)[4]? ≠ some (.sym .stop) ∧
      (List.replicate 12 (Sym6.sym .s00)).length < 13) ∧
    (([] : List Sym6)[4]? ≠ some (.sym .stop) ∧ ([] : List Sym6).length < 13) := by decide
/-- Every constructor has a well-formed term. -/
theorem witness_EncodeDecodeAgree : ex1.wf = true ∧
    ∀ i ∈ [Instr.probe, .probeOrigin, .poll0, .poll1, .unknownShort (groupOf 0xFF),
      .unknownLong (groupOf 0x00) (groupOf 0x0F) (groupOf 0x00) .invalid,
      .unknownLong (groupOf 0x04) (groupOf 0x0F) (groupOf 0x02) (.sym .stop),
      .decodeS00 0x08, .decodeS00 0x88, .decodeS01 0xE8, .decodeS01 0xC8, .decodeS10 0x0F, .decodeS10 0x8F,
      .decodeS11 0xEF, .decodeS11 0xCF, .decodeStop 0xFF, .decodeInvalid 0x00,
      .encodeS00, .encodeS01, .encodeS10, .encodeS11, .encodeStop, .clean Snapshot.neutral], i.wf ex1 = true := by decide
theorem witness_DecodedWordReencodes : ex1.wf = true ∧
    decode ex1 (.stream ((groupOf 0x04).syms ++ (groupOf 0x0F).syms ++ (groupOf 0x00).syms ++ [.sym .s11])) = .ok .poll0 ∧
    decode ex1 (.phys 0xC8) = .ok (.decodeS01 0xC8) := ⟨by decide, rfl, rfl⟩
theorem witness_StepRunsDecodedInstruction_short :
    (shortEnd 0x00 0xFF).cfg.wf = true ∧ (shortEnd 0x00 0xFF).ph = .rx 4 ∧ rxReady (shortEnd 0x00 0xFF) = true ∧
    decodeByte ex1.cal 0xFF = .sym .stop ∧
    decode ex1 (.stream ((shortEnd 0x00 0xFF).slot0.syms ++ [.sym .stop])) = .ok .probe :=
  ⟨by decide, rfl, rfl, by decide, rfl⟩
theorem witness_StepRunsDecodedInstruction_long :
    (longEnd 0x04 0x0F 0x00 0xFF).cfg.wf = true ∧ (longEnd 0x04 0x0F 0x00 0xFF).ph = .rx 12 ∧
    rxReady (longEnd 0x04 0x0F 0x00 0xFF) = true ∧
    decode ex1 (.stream ((longEnd 0x04 0x0F 0x00 0xFF).slot0.syms ++ (longEnd 0x04 0x0F 0x00 0xFF).slot1.syms ++
      (longEnd 0x04 0x0F 0x00 0xFF).slot2.syms ++ [decodeByte ex1.cal 0xFF])) = .ok .poll0 :=
  ⟨by decide, rfl, rfl, rfl⟩
/-- At `RX(0)`, at `RX(11)`, and at `RX(4)` with a byte that is not `STOP`. -/
theorem witness_StepRunsDecodedInstruction_symbol :
    (∀ n ∈ [(0 : Fin 13), 11, 4], (atPhase (.rx n) (ready 0x08 Snapshot.neutral)).cfg.wf = true ∧
      rxReady (atPhase (.rx n) (ready 0x08 Snapshot.neutral)) = true ∧ n.val ≠ 12 ∧
      ¬ (n.val = 4 ∧ decodeByte ex1.cal 0x08 = .sym .stop)) ∧
    decode ex1 (.phys 0x08) = .ok (.decodeS00 0x08) := ⟨by decide, rfl⟩
theorem witness_StepRunsDecodedInstruction_refresh_tx :
    (refreshing .probeOrigin Snapshot.neutral).ph = .refresh ∧
    decode ex1 (.snap (refreshing .probeOrigin Snapshot.neutral).inputs.buttons) = .ok (.clean Snapshot.neutral) ∧
    (sending 3).ph = .tx 3 ∧ txReady (sending 3) = true ∧
    decode ex1 (.sym (txSym (sending 3).frame 3)) = .ok .encodeS01 := ⟨rfl, rfl, rfl, rfl, rfl⟩
theorem witness_FetchWordRunsCommand :
    State.reset.cfg = hardwired ∧ decodeTableWord 8 0xFF = some (.unknownShort (groupOf 0xFF)) ∧
    decodeTableWord 24 0xFFFFFF
      = some (.unknownLong (groupOf 0xFF) (groupOf 0xFF) (groupOf 0xFF) (.sym .stop)) := ⟨rfl, rfl, rfl⟩
theorem witness_StepProceedsOrRefusesConfiguration :
    (atPhase (.rx 0) quiet).cfg.wf = true ∧ ({ atPhase (.rx 0) quiet with cfg := badCal } : State).cfg.wf = false := by
  decide
/-- The invariant holds in an `RX` phase, in `REFRESH`, in `TX(0)`, and in the last `TX` phase, each with a next state. -/
theorem witness_StepKeepsInvariant :
    Inv (shortEnd 0x00 0xFF) ∧ Inv (refreshing .probeOrigin Snapshot.neutral) ∧ Inv (sending 0) ∧ Inv (sending 11) ∧
    (∃ t, step (shortEnd 0x00 0xFF) = .next t) ∧ (∃ t, step (refreshing .probeOrigin Snapshot.neutral) = .next t) ∧
    (∃ t, step (sending 0) = .next t) ∧ (∃ t, step (sending 11) = .next t) :=
  ⟨⟨by decide, rfl, ⟨rfl, rfl, rfl⟩, trivial⟩, ⟨by decide, rfl, ⟨rfl, rfl, rfl⟩, Or.inl rfl⟩,
   ⟨by decide, rfl, ⟨rfl, rfl, rfl⟩, by decide, rfl, rfl, rfl, rfl⟩,
   ⟨by decide, rfl, ⟨rfl, rfl, rfl⟩, by decide, rfl, rfl, rfl, rfl⟩, ⟨_, rfl⟩, ⟨_, rfl⟩, ⟨_, rfl⟩, ⟨_, rfl⟩⟩
theorem witness_StepKeepsCanonicalTrace :
    TraceCanonical { sending 3 with trace := [.txPut 0x08, .rxTake 0xFF] } ∧
    ∃ t, step { sending 3 with trace := [.txPut 0x08, .rxTake 0xFF] } = .next t :=
  ⟨by intro p hp; simp only [List.mem_cons, Event.txPut.injEq, reduceCtorEq, List.not_mem_nil, or_false] at hp
      exact Or.inl hp, ⟨_, rfl⟩⟩
/-- `ProbeCompletes`, `ProbeOriginCompletes`, `UnknownCommandsComplete` (short), `FifthStopRunsCommand`. -/
theorem witness_short_commands_complete :
    ∀ v ∈ [(0x00 : LByte), 0x04, 0x40], (shortEnd v 0xFF).ph = .rx 4 ∧ rxReady (shortEnd v 0xFF) = true ∧
      decodeByte (shortEnd v 0xFF).cfg.cal (shortEnd v 0xFF).inputs.rxData = .sym .stop := by decide
/-- `PollCommandsComplete`, `UnknownCommandsComplete` (long), `ThirteenthSymbolRunsCommand`, for a `STOP`, a data and an
undefined thirteenth byte. -/
theorem witness_long_commands_complete :
    ∀ p ∈ [(0xFF : PByte), 0x08, 0x00], (longEnd 0x04 0x0F 0x01 p).ph = .rx 12 ∧
      rxReady (longEnd 0x04 0x0F 0x01 p) = true := by decide
theorem witness_ThirteenthSymbolRunsCommand :
    ∀ p ∈ [(0xFF : PByte), 0x08, 0x00], ∃ q ∈ decodeRows p, decodeByte ex1.cal p = q.1 := by decide
/-- Every decode row at the first phase, around `RX(4)` and at the last phase that stores; in `RX(4)` itself every row but
that of `STOP`. -/
theorem witness_DecodeRowsStoreSymbol :
    ∀ p ∈ [(0x08 : PByte), 0xE8, 0x0F, 0xEF, 0xFF, 0x00], ∀ n ∈ [(0 : Fin 13), 3, 5, 7, 8, 11],
      (∃ q ∈ decodeRows p, decodeByte ex1.cal p = q.1 ∧ ¬ (n.val = 4 ∧ q.1 = .sym .stop)) ∧ n.val + 1 < 13 ∧
      (atPhase (.rx n) (ready p Snapshot.neutral)).ph = .rx n ∧
      rxReady (atPhase (.rx n) (ready p Snapshot.neutral)) = true := by decide
theorem witness_DecodeRowsStoreSymbol_at_four :
    ∀ p ∈ [(0x08 : PByte), 0xE8, 0x0F, 0xEF, 0x00],
      (∃ q ∈ decodeRows p, decodeByte (shortEnd 0x04 p).cfg.cal p = q.1 ∧ ¬ ((4 : Fin 13).val = 4 ∧ q.1 = .sym .stop)) ∧
      (shortEnd 0x04 p).ph = .rx 4 ∧ rxReady (shortEnd 0x04 p) = true := by decide
/-- Both clauses: inside the response, at its last byte, and at the last byte of the longest response. -/
theorem witness_EncodeRowsTransmit :
    dataEncodeRows ex1.cal = [(.encodeS00, 0x08), (.encodeS01, 0xE8), (.encodeS10, 0x0F), (.encodeS11, 0xEF)] ∧
    txReady (sending 10) = true ∧ (10 : Fin 40).val + 1 < 4 * (sending 10).flen.toNat ∧
    txReady (sending 11) = true ∧ ¬ (11 : Fin 40).val + 1 < 4 * (sending 11).flen.toNat ∧
    ¬ (39 : Fin 40).val + 1 < 4 * FrameLen.origin10.toNat := by decide
/-- `CleanRefreshes`, `RefreshCleansPairsPassesOthers`, `MacroAndRumbleInvisible`. -/
theorem witness_refresh :
    (refreshing .probeOrigin Snapshot.neutral).ph = .refresh ∧
    (refreshing (.poll true) Snapshot.neutral).ph = .refresh ∧
    (refreshing (.poll true) Snapshot.neutral).cmd = .poll true := by decide
/-- Of the identifiers in pairs and in none. -/
theorem witness_pairs :
    (ButtonId.dpadLeft, ButtonId.dpadRight) ∈ socdPairs ∧ (ButtonId.csDown, ButtonId.csUp) ∈ socdPairs ∧
    (∀ q ∈ socdPairs, ButtonId.a ≠ q.1 ∧ ButtonId.a ≠ q.2) ∧ (∀ q ∈ socdPairs, ButtonId.tilt ≠ q.1 ∧ ButtonId.tilt ≠ q.2) := by
  decide
/-- `LanesIndependent`: two snapshots that agree on a pair and differ elsewhere. -/
theorem witness_LanesIndependent :
    (ButtonId.msLeft, ButtonId.msRight) ∈ socdPairs ∧
    buttonOf Snapshot.neutral .msLeft = buttonOf { Snapshot.neutral with dpadUp := .pushed } .msLeft ∧
    buttonOf Snapshot.neutral .msRight = buttonOf { Snapshot.neutral with dpadUp := .pushed } .msRight := by decide
/-- `TransmitStep` (its three clauses: inside the response, at its last byte, waiting), `DrainStep`, `StopPulseStep`. -/
theorem witness_port_steps :
    (sending 10).cfg.wf = true ∧ (sending 10).ph = .tx 10 ∧ txReady (sending 10) = true ∧
    (10 : Fin 40).val + 1 < 40 ∧ (10 : Fin 40).val + 1 < 4 * (sending 10).flen.toNat ∧
    (sending 11).cfg.wf = true ∧ (sending 11).ph = .tx 11 ∧ txReady (sending 11) = true ∧
    ¬ (11 : Fin 40).val + 1 < 4 * (sending 11).flen.toNat ∧
    txReady { sending 6 with inputs := quiet } = false ∧
    (atPhase .drain quiet).cfg.wf = true ∧ (atPhase .drain quiet).ph = .drain ∧
    (atPhase .stopp quiet).cfg.wf = true ∧ (atPhase .stopp quiet).ph = .stopp := by decide
/-- A wait in each phase that can wait. -/
theorem witness_WaitChangesNothing :
    (atPhase (.rx 3) quiet).cfg.wf = true ∧ Waits (atPhase (.rx 3) quiet) ∧
    Waits { sending 6 with inputs := quiet } ∧ Waits (atPhase .drain quiet) := ⟨by decide, rfl, rfl, rfl⟩
/-- Program 4 in small: `RX(7)` with nothing arriving in the next three samples. -/
theorem witness_WaitHasNoTimeout :
    (atPhase (.rx 7) quiet).cfg.wf = true ∧ WaitsFor { atPhase (.rx 7) quiet with upcoming := [quiet, quiet] } 3 := by
  refine ⟨by decide, ?_⟩
  show ∀ l, l < 3 → _
  decide
/-- `EventsByPhase`, `RegistersWrittenByTheirSteps`, `ErrorsByStep`: a step from each kind of phase. -/
theorem witness_steps_of_each_phase :
    (∃ t, step (shortEnd 0x40 0xFF) = .next t) ∧ (∃ t, step (longEnd 0x04 0x0F 0x02 0xFF) = .next t) ∧
    (∃ t, step (atPhase (.rx 0) (ready 0x80 Snapshot.neutral)) = .next t) ∧
    (∃ t, step (atPhase (.rx 0) quiet) = .next t) ∧
    (∃ t, step (refreshing (.poll false) Snapshot.neutral) = .next t) ∧ (∃ t, step (sending 0) = .next t) ∧
    (∃ t, step (atPhase .drain quiet) = .next t) ∧ (∃ t, step (atPhase .stopp quiet) = .next t) :=
  ⟨⟨_, rfl⟩, ⟨_, rfl⟩, ⟨_, rfl⟩, ⟨_, rfl⟩, ⟨_, rfl⟩, ⟨_, rfl⟩, ⟨_, rfl⟩, ⟨_, rfl⟩⟩
theorem witness_RegistersWrittenByTheirSteps :
    see (fun t => decide (t.cmd ≠ (shortEnd 0x00 0xFF).cmd)) (step (shortEnd 0x00 0xFF)) = some true ∧
    see (fun t => decide (t.rxen ≠ (atPhase .stopp quiet).rxen)) (step (atPhase .stopp quiet)) = some true := by decide
/-- The clauses: into `STOPP`, in it, and from `TX` outside it. -/
theorem witness_StopOnlyAfterDrain :
    see (fun t => t.ph) (step (atPhase .drain (ready 0 Snapshot.neutral))) = some .stopp ∧
    see (fun t => stopPulses t.trace) (step (atPhase .stopp quiet)) = some 1 ∧
    see (fun t => stopPulses t.trace) (step (sending 11)) = some 0 := by decide
/-- A `TX` step, and an `RX` step in which a byte waits whose value was taken before. -/
theorem witness_NoReceiveWhileDisabled :
    (sending 0).rxen = false ∧ (∃ t, step (sending 0) = .next t ∧ t.trace = [.txPut 0x08]) ∧
    see (fun t => takenBytes t.trace) (step { shortEnd 0x00 0xFF with rxen := false, trace := [.rxTake 0xFF] })
      = some [0xFF] := ⟨rfl, ⟨_, rfl, rfl⟩, by decide⟩
/-- Each clause: a phase that is not the instruction's, and a byte that is not the row's. -/
theorem witness_OutOfPhaseAndIllFormedStop :
    (sending 0).ph ≠ .rx 4 ∧ (sending 0).ph ≠ .rx 12 ∧ (sending 0).ph ≠ .refresh ∧
    (Sym6.sym Sym.s01, Instr.decodeS01 0x08) ∈ decodeRows 0x08 ∧ decodeByte (sending 0).cfg.cal 0x08 ≠ .sym .s01 ∧
    decodeByte (sending 0).cfg.cal 0x08 = .sym .s00 ∧
    (Instr.encodeS11, (0xEF : PByte)) ∈ dataEncodeRows (refreshing .probe Snapshot.neutral).cfg.cal := by decide

/-! Cycles: a state at `RX(0)` or `TX(0)` and a script that meets all hypotheses. -/

/-- At `RX(0)` with a script: the bytes `ps` one by one, then `n` samples in which every condition holds. -/
def scripted (ps : List PByte) (n : Nat) : State :=
  let es := ps.map (fun p => ready p Snapshot.neutral) ++ List.replicate n (ready 0 Snapshot.neutral)
  { atPhase (.rx 0) quiet with inputs := es.headD quiet, upcoming := es.tail }

/-- The bytes of V-P1 (`PROBE`) followed by eight that are not taken, of V-P16 (thirteen `00`), of V-P4 (`POLL 1`). -/
def probeBytes : List PByte := [0x08, 0x88, 0x08, 0x08, 0xFF, 0x08, 0x08, 0x08, 0x08, 0x08, 0x08, 0x08, 0x08]
def zeroBytes : List PByte := List.replicate 13 0x08
def pollBytes : List PByte := [0x08, 0x08, 0xE8, 0x08, 0x08, 0x08, 0xEF, 0xEF, 0x08, 0x08, 0x08, 0xE8, 0xFF]

theorem witness_ParserTakesFiveOrThirteen_five :
    (scripted probeBytes 0).cfg.wf = true ∧ (scripted probeBytes 0).ph = .rx 0 ∧ (scripted probeBytes 0).rxen = true ∧
    (∀ k, k < 13 → (inputAt (scripted probeBytes 0) k).rxReady = true ∧
      (inputAt (scripted probeBytes 0) k).rxData = probeBytes.getD k 0) ∧
    decodeByte ex1.cal (probeBytes.getD 4 0) = .sym .stop := by decide
/-- V-P9: an `Unknown` parse of five bytes (V-P16 below is one of thirteen). -/
theorem witness_ParserTakesFiveOrThirteen_unknown :
    let ps : List PByte := [0xE8, 0x08, 0x08, 0x08, 0xFF] ++ List.replicate 8 0x08
    (∀ k, k < 13 → (inputAt (scripted ps 0) k).rxReady = true ∧ (inputAt (scripted ps 0) k).rxData = ps.getD k 0) ∧
    decodeByte ex1.cal (ps.getD 4 0) = .sym .stop ∧ classifyShort ex1 (groupOf 0x40) = .unknown ∧
    classifyLong ex1 (groupOf 0x00) (groupOf 0x00) (groupOf 0x00) = .unknown := by decide
theorem witness_ParserTakesFiveOrThirteen_thirteen :
    (scripted zeroBytes 0).cfg.wf = true ∧ (scripted zeroBytes 0).ph = .rx 0 ∧ (scripted zeroBytes 0).rxen = true ∧
    (∀ k, k < 13 → (inputAt (scripted zeroBytes 0) k).rxReady = true ∧
      (inputAt (scripted zeroBytes 0) k).rxData = zeroBytes.getD k 0) ∧
    decodeByte ex1.cal (zeroBytes.getD 4 0) ≠ .sym .stop := by decide
/-- The shortest and the longest response. -/
theorem witness_ResponseSentThenStopped :
    ∀ f ∈ [FrameLen.id3, .state8, .origin10],
      let s : State := { scripted [] 41 with ph := .tx 0, rxen := false, flen := f }
      s.cfg.wf = true ∧ s.ph = .tx 0 ∧ (∀ k, k < 4 * s.flen.toNat → (inputAt s k).txReady = true) ∧
      (inputAt s (4 * s.flen.toNat)).txComplete = true := by decide
theorem witness_ProbeCycle :
    let s := scripted (probeBytes.take 5) 14
    s.cfg.wf = true ∧ s.ph = .rx 0 ∧ s.rxen = true ∧
    (∀ k, k < 5 → (inputAt s k).rxReady = true ∧ (inputAt s k).rxData = probeBytes.getD k 0) ∧
    (∀ k, k < 4 → decodeByte s.cfg.cal (probeBytes.getD k 0) = .sym (symAt s.cfg.cmdB0Probe (Fin.ofNat 4 k))) ∧
    decodeByte s.cfg.cal (probeBytes.getD 4 0) = .sym .stop ∧
    (∀ k, k < 17 → 5 ≤ k → (inputAt s k).txReady = true) ∧ (inputAt s 17).txComplete = true := by decide
theorem witness_ProbeOriginCycle :
    let s := scripted [0x08, 0x08, 0xC8, 0x08, 0xFF] 43
    s.cfg.wf = true ∧ s.ph = .rx 0 ∧ s.rxen = true ∧
    (∀ k, k < 5 → (inputAt s k).rxReady = true ∧ (inputAt s k).rxData = [0x08, 0x08, 0xC8, 0x08, 0xFF].getD k 0) ∧
    (∀ k, k < 4 → decodeByte s.cfg.cal ([0x08, 0x08, 0xC8, 0x08, 0xFF].getD k 0)
      = .sym (symAt s.cfg.cmdB0Origin (Fin.ofNat 4 k))) ∧
    decodeByte s.cfg.cal ([0x08, 0x08, 0xC8, 0x08, 0xFF].getD 4 0) = .sym .stop ∧
    (∀ k, k < 46 → 6 ≤ k → (inputAt s k).txReady = true) ∧ (inputAt s 46).txComplete = true := by decide
/-- Both rumble flags. -/
theorem witness_PollCycle : ∀ r ∈ [false, true],
    let ps := pollBytes.take 11 ++ [if r then 0xE8 else 0x08, 0xFF]
    let s := scripted ps 35
    s.cfg.wf = true ∧ s.ph = .rx 0 ∧ s.rxen = true ∧
    (∀ k, k < 13 → (inputAt s k).rxReady = true ∧ (inputAt s k).rxData = ps.getD k 0) ∧
    (∀ k, k < 4 → decodeByte s.cfg.cal (ps.getD k 0) = .sym (symAt s.cfg.cmdB0Poll (Fin.ofNat 4 k))) ∧
    (∀ k, k < 4 → decodeByte s.cfg.cal (ps.getD (4 + k) 0) = .sym (symAt 0x0F (Fin.ofNat 4 k))) ∧
    (∀ k, k < 4 → decodeByte s.cfg.cal (ps.getD (8 + k) 0) = .sym (symAt (if r then 0x01 else 0x00) (Fin.ofNat 4 k))) ∧
    (∀ k, k < 46 → 14 ≤ k → (inputAt s k).txReady = true) ∧ (inputAt s 46).txComplete = true := by decide
/-- Two machines at `RX(0)` that differ in slots, command, frame and snapshots. -/
theorem witness_CyclesCarryNothingOver :
    let s := scripted pollBytes 35
    let s' := { s with slot0 := groupOf 0xFF, cmd := .probe, frame := idFrame s.frame, flen := .origin10,
                       proc := { s.proc with a := .pushed } }
    s.cfg.wf = true ∧ s'.cfg = s.cfg ∧ s.ph = .rx 0 ∧ s'.ph = .rx 0 ∧ s.rxen = true ∧ s'.rxen = true ∧
    s'.inputs = s.inputs ∧ s'.upcoming = s.upcoming ∧ s'.tick = s.tick ∧ s'.slot0 ≠ s.slot0 := by decide

end Sys2Proof.Tests
end

section
/-! PROOFS. The decoder of the bit-pair codec, symbol by symbol (R80 to R84): the bytes of a symbol are what decodes to
it, since no byte belongs to two symbols. -/

namespace Sys2Proof

/-- The calibration bytes that R80 to R84 list for a symbol. -/
def Cal.bytesOf (k : Cal) : Sym → List PByte
  | .s00 => [k.a, k.b]
  | .s01 => [k.c, k.d]
  | .s10 => [k.e, k.f]
  | .s11 => [k.g, k.h]
  | .stop => [k.i]

/-- The five symbols, in the order of R80 to R84. -/
def Sym.all : List Sym := [.s00, .s01, .s10, .s11, .stop]

@[simp] theorem Sym.mem_all (s : Sym) : s ∈ Sym.all := by
  cases s <;> decide

/-- The five lists of `Cal.bytesOf`, in order, are the nine calibration bytes. -/
theorem Cal.bytes_eq_flatMap_bytesOf (k : Cal) : k.bytes = Sym.all.flatMap k.bytesOf := rfl

/-- What the decoder can answer: a symbol that lists the byte, or `INVALID` for a byte outside the nine. -/
theorem decodeByte_cases (k : Cal) (p : PByte) :
    (∃ s, decodeByte k p = .sym s ∧ p ∈ k.bytesOf s) ∨ (decodeByte k p = .invalid ∧ p ∉ k.bytes) := by
  unfold decodeByte
  split_ifs with h00 h01 h10 h11 hstop
  · exact .inl ⟨.s00, rfl, by simpa [Cal.bytesOf] using h00⟩
  · exact .inl ⟨.s01, rfl, by simpa [Cal.bytesOf] using h01⟩
  · exact .inl ⟨.s10, rfl, by simpa [Cal.bytesOf] using h10⟩
  · exact .inl ⟨.s11, rfl, by simpa [Cal.bytesOf] using h11⟩
  · exact .inl ⟨.stop, rfl, by simpa [Cal.bytesOf] using hstop⟩
  · exact .inr ⟨rfl, by simp_all [Cal.bytes]⟩

/-- A byte listed for a symbol is one of the nine. -/
theorem Cal.mem_bytes_of_mem_bytesOf {k : Cal} {s : Sym} {p : PByte} (hp : p ∈ k.bytesOf s) : p ∈ k.bytes := by
  rw [k.bytes_eq_flatMap_bytesOf]
  exact List.mem_flatMap_of_mem s.mem_all hp

/-- With distinct calibration bytes no byte is listed for two symbols (R93). -/
theorem Cal.bytesOf_unique {k : Cal} (h : k.distinct = true) {s t : Sym} {p : PByte}
    (hs : p ∈ k.bytesOf s) (ht : p ∈ k.bytesOf t) : s = t := by
  by_contra hne
  have hnodup : k.bytes.Nodup := of_decide_eq_true h
  rw [k.bytes_eq_flatMap_bytesOf, List.nodup_flatMap] at hnodup
  have hsymm : Std.Symm (Function.onFun List.Disjoint k.bytesOf) := ⟨fun _ _ hd => List.Disjoint.symm hd⟩
  have hdisjoint : (k.bytesOf s).Disjoint (k.bytesOf t) := hnodup.2.forall s.mem_all t.mem_all hne
  exact hdisjoint hs ht

/-- With distinct calibration bytes a byte decodes to a symbol exactly when it is listed for it (R80 to R84, R93). -/
theorem decodeByte_eq_sym_iff {k : Cal} (h : k.distinct = true) {p : PByte} {s : Sym} :
    decodeByte k p = .sym s ↔ p ∈ k.bytesOf s := by
  obtain ⟨t, hdec, ht⟩ | ⟨hdec, hp⟩ := decodeByte_cases k p
  · rw [hdec, Sym6.sym.injEq]
    exact ⟨fun hts => hts ▸ ht, Cal.bytesOf_unique h ht⟩
  · simpa [hdec] using fun hs => hp (Cal.mem_bytes_of_mem_bytesOf hs)

/-- Settles O1: the equivalence of `decodeByte_eq_sym_iff` at each of the five symbols. -/
theorem decodeRecognisedBytes : Obligations.DecodeRecognisedBytes := by
  intro k h p
  simp [decodeByte_eq_sym_iff h, Cal.bytesOf]

end Sys2Proof
end

section
/-! PROOFS. The decode rows as receive steps that go on to the next symbol (R101, the else branch of R102, R103, R104). -/

namespace Sys2Proof.Machine

/-- Each of the six decode rows on a byte is the receive step of its symbol (R80 to R85). -/
theorem exec_of_mem_decodeRows {p : PByte} {y : Sym6} {i : Instr} (hrow : (y, i) ∈ decodeRows p) (s : State) :
    exec i s = receiveAs y p s := by
  simp only [decodeRows, List.mem_cons, Prod.mk.injEq, List.not_mem_nil, or_false] at hrow
  obtain ⟨rfl, rfl⟩ | ⟨rfl, rfl⟩ | ⟨rfl, rfl⟩ | ⟨rfl, rfl⟩ | ⟨rfl, rfl⟩ | ⟨rfl, rfl⟩ := hrow <;> rfl

/-- A receive step that ends no command goes on to the next symbol (R101, the else branch of R102, R103, R104). -/
theorem afterSymbol_goes_on {n : Fin 13} (h : n.val + 1 < 13) {y : Sym6} (hstop : ¬ (n.val = 4 ∧ y = .sym .stop))
    (s : State) : afterSymbol n y s = goto (.rx ⟨n.val + 1, h⟩) s := by
  have hlast : n.val ≠ 12 := by omega
  simp only [afterSymbol, if_neg hstop, dif_neg hlast]

/-- Settles O22: the row is the receive step, which acquires the byte, stores its symbol and goes on. -/
theorem decodeRowsStoreSymbol : Obligations.DecodeRowsStoreSymbol := by
  intro s p y i n h hrow hdec hph hready hstop
  have hslot2 : (8 ≤ n.val ∧ n.val < 12) ↔ 8 ≤ n.val := by omega
  calc exec i s
    _ = receive y p s := by rw [exec_of_mem_decodeRows hrow, receiveAs_wf hdec]
    _ = .next (goto (.rx ⟨n.val + 1, h⟩) (storeSymbol n y (acquire p s))) := by
      rw [receive_ready hph hready, afterSymbol_goes_on h hstop]
    _ = _ := by simp [storeSymbol_eq, acquire_eq, acquireErrors, hdec, goto, hslot2]

end Sys2Proof.Machine
end

section
/-! PROOFS. The SOCD cleaner and the passthrough: `clean` as R171 gives it, `process` pair by pair (R172) and on the
identifiers of no pair (R175), and the refresh step that stores its result (R132). -/

namespace Sys2Proof.Machine

/-- `clean` is the conditional function of R171. -/
theorem clean_eq_ite (n p : ButtonState) :
    clean n p = if n = .pushed ∧ p = .pushed then (.released, .released) else (n, p) := by
  cases n <;> cases p <;> rfl

/-- Only a direction pushed without its opposite stays pushed (R171 in bits, `Pushed = 1`). -/
theorem buttonBit_clean (n p : ButtonState) :
    buttonBit (clean n p).1 = buttonBit n &&& ~~~ buttonBit p ∧
    buttonBit (clean n p).2 = buttonBit p &&& ~~~ buttonBit n := by
  cases n <;> cases p <;> decide

/-- Settles O28: the four rows of the table by evaluation, then the conditional and the bit form of `clean`. -/
theorem socdCleanTable : Obligations.SocdCleanTable :=
  ⟨rfl, rfl, rfl, rfl, clean_eq_ite, buttonBit_clean⟩

/-- Each pair of R170 is cleaned in its own lane (R172). -/
theorem buttonOf_process_of_mem_socdPairs {neg pos : ButtonId} (h : (neg, pos) ∈ socdPairs) (raw : Snapshot) :
    (buttonOf (process raw) neg, buttonOf (process raw) pos) = clean (buttonOf raw neg) (buttonOf raw pos) := by
  simp only [socdPairs, List.mem_cons, Prod.mk.injEq, List.not_mem_nil, or_false] at h
  obtain ⟨rfl, rfl⟩ | ⟨rfl, rfl⟩ | ⟨rfl, rfl⟩ | ⟨rfl, rfl⟩ | ⟨rfl, rfl⟩ | ⟨rfl, rfl⟩ := h <;> rfl

/-- An identifier of no pair passes through unchanged (R175). -/
theorem buttonOf_process_of_unpaired {id : ButtonId} (h : ∀ q ∈ socdPairs, id ≠ q.1 ∧ id ≠ q.2) (raw : Snapshot) :
    buttonOf (process raw) id = buttonOf raw id := by
  cases id
  case a | b | x | y | l | r | z | start | macroBtn | tilt => rfl
  all_goals exact absurd h (by decide)

section
variable (s : State)
@[simp] theorem buildFrame_raw : (buildFrame s).raw = s.raw := by rw [buildFrame_eq]
@[simp] theorem buildFrame_proc : (buildFrame s).proc = s.proc := by rw [buildFrame_eq]
end

/-- In `REFRESH` the cleaner's row is the refresh step on its operand (R132). -/
theorem exec_clean_of_refresh {s : State} (h : s.ph = .refresh) (raw : Snapshot) :
    exec (.clean raw) s = .next
      (goto (.tx 0) (disableReceiver (buildFrame (setSnapshots raw (process raw) (readInputs raw s))))) := by
  simp only [exec, execClean, refresh, h]

/-- A refresh stores the snapshot and what `process` makes of it (R132). -/
theorem exec_clean_stores_snapshots {s : State} (h : s.ph = .refresh) (raw : Snapshot) :
    ∃ t, exec (.clean raw) s = .next t ∧ t.raw = raw ∧ t.proc = process raw :=
  ⟨_, exec_clean_of_refresh h raw, by simp, by simp⟩

/-- Settles O29: the step stores `process` of the snapshot, which cleans the pairs and passes the other identifiers. -/
theorem refreshCleansPairsPassesOthers : Obligations.RefreshCleansPairsPassesOthers := by
  intro s snap hph
  obtain ⟨t, hexec, rfl, hproc⟩ := exec_clean_stores_snapshots hph snap
  refine ⟨t, hexec, rfl, ?_⟩
  rw [hproc]
  exact ⟨fun _ _ hpair => buttonOf_process_of_mem_socdPairs hpair t.raw,
    fun _ hid => buttonOf_process_of_unpaired hid t.raw⟩

end Sys2Proof.Machine
end

section
/-! PROOFS. The codec beyond the five symbols: the bytes that decode to `INVALID` (R85, R76) and the round trip (R92). -/

namespace Sys2Proof

/-- Every symbol is encoded as a byte that is listed for it (R91). -/
theorem encodeSym_mem_bytesOf (k : Cal) (s : Sym) : encodeSym k s ∈ k.bytesOf s := by
  cases s <;> simp [encodeSym, Cal.bytesOf]

/-- A byte decodes to `INVALID` exactly when it is none of the nine (R85). -/
theorem decodeByte_eq_invalid_iff {k : Cal} {p : PByte} : decodeByte k p = .invalid ↔ p ∉ k.bytes := by
  obtain ⟨s, hdec, hp⟩ | ⟨hdec, hp⟩ := decodeByte_cases k p
  · simp [hdec, Cal.mem_bytes_of_mem_bytesOf hp]
  · simp [hdec, hp]

/-- The bytes, as numbers, that a duplicate-free list of bytes holds are as many as the list is long. -/
theorem length_filter_ofFin_mem {l : List PByte} (h : l.Nodup) :
    ((List.finRange 256).filter fun n => decide (BitVec.ofFin n ∈ l)).length = l.length := by
  have hinj : Function.Injective (BitVec.toFin : PByte → Fin 256) := fun _ _ => BitVec.toFin_inj.mp
  have hperm : ((List.finRange 256).filter fun n => decide (BitVec.ofFin n ∈ l)).Perm (l.map BitVec.toFin) := by
    refine (List.perm_ext_iff_of_nodup ((List.nodup_finRange 256).filter _) (h.map hinj)).mpr fun n => ?_
    simp only [List.mem_filter, List.mem_finRange, true_and, decide_eq_true_eq, List.mem_map]
    exact ⟨fun hn => ⟨_, hn, rfl⟩, fun ⟨p, hp, hpn⟩ => hpn ▸ hp⟩
  simpa using hperm.length_eq

/-- Settles O2: the bytes that do not decode to `INVALID` are the nine distinct calibration bytes. -/
theorem unrecognisedBytesAreInvalid : Obligations.UnrecognisedBytesAreInvalid := by
  refine fun k => ⟨fun p => decodeByte_eq_invalid_iff, fun h => ?_⟩
  have hnine := length_filter_ofFin_mem (l := k.bytes) (of_decide_eq_true h)
  have hsplit := (List.finRange 256).length_eq_length_filter_add fun n => decide (BitVec.ofFin n ∈ k.bytes)
  have hbytes : k.bytes.length = 9 := rfl
  have hinvalid : ∀ n ∈ List.finRange 256,
      decide (decodeByte k (.ofFin n) = .invalid) = !decide (BitVec.ofFin n ∈ k.bytes) := by
    simp [decodeByte_eq_invalid_iff]
  rw [List.filter_congr hinvalid]
  simp only [List.length_finRange, hnine, hbytes] at hsplit
  omega

/-- Settles O3: a byte decodes to the symbol it is listed for, and the first-listed byte is the one encoded. -/
theorem codecRoundTrip : Obligations.CodecRoundTrip := by
  intro k h
  simp only [decodeByte_eq_sym_iff h]
  refine ⟨encodeSym_mem_bytesOf k, ?_, ?_, ?_, ?_, fun p => ⟨?_, ?_⟩⟩
  case refine_5 =>
    rintro ⟨s, -, rfl⟩
    cases s <;> simp [encodeSym]
  case refine_6 =>
    rintro (rfl | rfl | rfl | rfl | rfl)
    exacts [⟨.s00, encodeSym_mem_bytesOf k .s00, rfl⟩, ⟨.s01, encodeSym_mem_bytesOf k .s01, rfl⟩,
      ⟨.s10, encodeSym_mem_bytesOf k .s10, rfl⟩, ⟨.s11, encodeSym_mem_bytesOf k .s11, rfl⟩,
      ⟨.stop, encodeSym_mem_bytesOf k .stop, rfl⟩]
  all_goals simp [Cal.bytesOf]

end Sys2Proof
end

section
/-! PROOFS. Slot groups as byte values (R66, R106) and the classification of a command (R107 to R113). -/

namespace Sys2Proof

/-- A received symbol that carries no bit pair: `STOP` or `INVALID` (R70, R94). -/
theorem bitsOf_eq_none_iff (y : Sym6) : bitsOf y = none ↔ y = .invalid ∨ y = .sym .stop := by
  rcases y with (_ | _ | _ | _ | _) | _ <;> decide

/-- `bits` and `sym` are inverse to each other (R94). -/
theorem bitsOf_eq_some_iff (y : Sym6) (b : BitVec 2) :
    bitsOf y = some b ↔ y = .sym (symOf (b.getLsbD 1) (b.getLsbD 0)) := by
  revert b
  rcases y with (_ | _ | _ | _ | _) | _ <;> decide

/-- Four bit pairs are joined to a byte exactly when they are its pairs, the first the most significant (R66). -/
theorem append_pairs_eq_iff (b0 b1 b2 b3 : BitVec 2) (v : LByte) :
    b0 ++ b1 ++ b2 ++ b3 = v ↔ b0 = v.extractLsb' 6 2 ∧ b1 = v.extractLsb' 4 2 ∧
      b2 = v.extractLsb' 2 2 ∧ b3 = v.extractLsb' 0 2 := by
  constructor
  · rintro rfl
    revert b0 b1 b2 b3
    decide
  · rintro ⟨rfl, rfl, rfl, rfl⟩
    revert v
    decide

/-- A group has the value `v` exactly when each slot carries its bit pair of `v` (R66). -/
theorem groupValue_eq_some_iff (g : SlotGroup) (v : LByte) :
    groupValue g = some v ↔ bitsOf g.k0 = some (v.extractLsb' 6 2) ∧ bitsOf g.k1 = some (v.extractLsb' 4 2) ∧
      bitsOf g.k2 = some (v.extractLsb' 2 2) ∧ bitsOf g.k3 = some (v.extractLsb' 0 2) := by
  unfold groupValue
  cases bitsOf g.k0 <;> cases bitsOf g.k1 <;> cases bitsOf g.k2 <;> cases bitsOf g.k3 <;>
    simp [append_pairs_eq_iff]

/-- A group has no value exactly when a slot holds `STOP` or `INVALID` (R66, R70). -/
theorem groupValue_eq_none_iff (g : SlotGroup) :
    groupValue g = none ↔ ∃ y ∈ g.syms, y = .invalid ∨ y = .sym .stop := by
  simp only [← bitsOf_eq_none_iff, SlotGroup.syms, List.mem_cons, List.not_mem_nil, or_false, exists_eq_or_imp,
    exists_eq_left]
  unfold groupValue
  cases bitsOf g.k0 <;> cases bitsOf g.k1 <;> cases bitsOf g.k2 <;> cases bitsOf g.k3 <;> simp

/-- Matching a constant slot by slot (R106) is having its value (R66). -/
theorem groupMatches_iff_groupValue (g : SlotGroup) (c : LByte) :
    groupMatches g c = true ↔ groupValue g = some c := by
  obtain ⟨y0, y1, y2, y3⟩ := g
  simp [groupMatches_iff, groupValue_eq_some_iff, bitsOf_eq_some_iff, groupOf, symAt]

/-- A group with a `STOP` or an `INVALID` matches no constant (R70). -/
theorem groupMatches_of_bad_slot {g : SlotGroup} (h : ∃ y ∈ g.syms, y = .invalid ∨ y = .sym .stop) (c : LByte) :
    groupMatches g c = false := by
  rw [Bool.eq_false_iff, Ne, groupMatches_iff_groupValue, (groupValue_eq_none_iff g).mpr h]
  simp

/-- Settles O4: the two readings of a group agree, pair by pair. -/
theorem groupMatchIsByteValue : Obligations.GroupMatchIsByteValue := fun g =>
  ⟨groupMatches_iff_groupValue g, groupValue_eq_none_iff g, groupMatches_of_bad_slot⟩

/-- Two constants that one group matches are equal. -/
theorem groupMatches_unique {g : SlotGroup} {u v : LByte} (hu : groupMatches g u = true)
    (hv : groupMatches g v = true) : u = v :=
  groupOf_inj ((groupMatches_iff.mp hu).symm.trans (groupMatches_iff.mp hv))

/-- A configuration that meets its constraints tells `PROBE` from `PROBEORIGIN` (R5). -/
theorem Cfg.wf_probe_ne_origin {c : Cfg} (h : c.wf = true) : c.cmdB0Probe ≠ c.cmdB0Origin := by
  simp only [Cfg.wf, Bool.and_eq_true, bne_iff_ne] at h
  obtain ⟨⟨⟨-, hne⟩, -⟩, -⟩ := h
  exact hne

/-! ### The short classification -/

theorem classifyShort_eq_probe_iff (c : Cfg) (g : SlotGroup) :
    classifyShort c g = .probe ↔ groupMatches g c.cmdB0Probe = true := by
  unfold classifyShort
  split_ifs <;> simp_all

theorem classifyShort_eq_probeOrigin_iff {c : Cfg} (h : c.wf = true) (g : SlotGroup) :
    classifyShort c g = .probeOrigin ↔ groupMatches g c.cmdB0Origin = true := by
  unfold classifyShort
  split_ifs with hp ho
  · simpa using fun ho => Cfg.wf_probe_ne_origin h (groupMatches_unique hp ho)
  · simp [ho]
  · simp [ho]

theorem classifyShort_eq_unknown_iff (c : Cfg) (g : SlotGroup) :
    classifyShort c g = .unknown ↔ groupMatches g c.cmdB0Probe = false ∧ groupMatches g c.cmdB0Origin = false := by
  unfold classifyShort
  split_ifs <;> simp_all

theorem classifyShort_ne_poll (c : Cfg) (g : SlotGroup) (r : Bool) : classifyShort c g ≠ .poll r := by
  unfold classifyShort
  split_ifs <;> simp

/-! ### The long classification -/

/-- The constant of byte 2 of `POLL r` (R5). -/
def pollB2 (r : Bool) : LByte := if r then cmdB2RumbleOn else cmdB2RumbleOff

theorem classifyLong_eq_poll_iff (c : Cfg) (g0 g1 g2 : SlotGroup) (r : Bool) :
    classifyLong c g0 g1 g2 = .poll r ↔ groupMatches g0 c.cmdB0Poll = true ∧ groupMatches g1 cmdB1Poll = true ∧
      groupMatches g2 (pollB2 r) = true := by
  have hne : ¬ (groupMatches g2 cmdB2RumbleOff = true ∧ groupMatches g2 cmdB2RumbleOn = true) := fun ⟨hoff, hon⟩ =>
    absurd (groupMatches_unique hoff hon) (by decide)
  unfold classifyLong pollB2
  cases r <;> split_ifs <;> simp_all

theorem classifyLong_eq_unknown_iff (c : Cfg) (g0 g1 g2 : SlotGroup) :
    classifyLong c g0 g1 g2 = .unknown ↔ ¬ (groupMatches g0 c.cmdB0Poll = true ∧ groupMatches g1 cmdB1Poll = true ∧
      (groupMatches g2 cmdB2RumbleOff = true ∨ groupMatches g2 cmdB2RumbleOn = true)) := by
  unfold classifyLong
  split_ifs <;> simp_all

/-- The long path never gives `Probe` or `ProbeOrigin` (R113). -/
theorem classifyLong_cases (c : Cfg) (g0 g1 g2 : SlotGroup) :
    (∃ r, classifyLong c g0 g1 g2 = .poll r) ∨ classifyLong c g0 g1 g2 = .unknown := by
  unfold classifyLong
  split_ifs <;> simp

/-- Settles O5: each classification is a match of constants, and a match is the value of the group. -/
theorem classificationByByteValue : Obligations.ClassificationByByteValue := by
  intro c h g0 g1 g2
  simp only [classifyShort_eq_probe_iff, classifyShort_eq_probeOrigin_iff h, classifyLong_eq_poll_iff,
    groupMatches_iff_groupValue, true_and]
  refine ⟨classifyShort_ne_poll c g0, Iff.rfl, Iff.rfl, ?_⟩
  obtain ⟨r, hr⟩ | hu := classifyLong_cases c g0 g1 g2
  · simp [hr]
  · simp [hu]

/-- Settles O6: the group with the bad slot matches none of the constants that the classification asks for. -/
theorem badSlotMakesUnknown : Obligations.BadSlotMakesUnknown := by
  intro c g0 g1 g2
  refine ⟨fun h => ?_, ?_⟩
  · simp [classifyShort_eq_unknown_iff, groupMatches_of_bad_slot h]
  · rintro ⟨y, hy, hbad⟩
    rw [classifyLong_eq_unknown_iff]
    simp only [List.mem_append] at hy
    obtain (hy | hy) | hy := hy <;> simp [groupMatches_of_bad_slot ⟨y, hy, hbad⟩]

end Sys2Proof
end

section
/-! PROOFS. The decoder and the encoder: what a symbol stream must look like to be a command (R69, R73), and that decode
and encode are inverse to each other. -/

namespace Sys2Proof

/-! ### Symbol streams -/

/-- Settles O7: the two patterns of `decodeCommand` are at least five symbols, and at least thirteen. -/
theorem commandLengthByFifthSymbol : Obligations.CommandLengthByFifthSymbol := by
  intro c ys
  match ys with
  | [] | [_] | [_, _] | [_, _, _] | [_, _, _, _] => simp [decodeCommand]
  | y0 :: y1 :: y2 :: y3 :: y4 :: rest =>
    simp only [List.getElem?_cons_succ, List.getElem?_cons_zero, Option.some.injEq, ne_eq, decodeCommand]
    refine ⟨fun h => ⟨_, if_pos h⟩, ?_⟩
    match rest with
    | y5 :: y6 :: y7 :: y8 :: y9 :: y10 :: y11 :: y12 :: rest' =>
      exact ⟨fun h _ => ⟨_, if_neg h⟩, fun _ hlen => absurd hlen (by simp)⟩
    | [] | [_] | [_, _] | [_, _, _] | [_, _, _, _] | [_, _, _, _, _] | [_, _, _, _, _, _] | [_, _, _, _, _, _, _] =>
      exact ⟨fun _ hlen => absurd hlen (by simp), fun h _ => if_neg h⟩

/-- Everything a symbol stream that decodes can be: the five symbols of a SHORT command, or the thirteen of a LONG one
(R69, R73); the converse is `decode_five` and `decode_thirteen`. -/
theorem decode_stream_ok {c : Cfg} {ys : List Sym6} {i : Instr} (h : decode c (.stream ys) = .ok i) :
    (∃ g : SlotGroup, ys = g.syms ++ [.sym .stop] ∧ i = decodeShort c g) ∨
    (∃ (g0 g1 g2 : SlotGroup) (x : Sym6), g1.k0 ≠ .sym .stop ∧ ys = g0.syms ++ g1.syms ++ g2.syms ++ [x] ∧
      i = decodeLong c g0 g1 g2 x) := by
  have hcommand : decodeCommand c ys = .ok (i, []) := by
    simp only [decode] at h
    split at h <;> simp_all
  unfold decodeCommand at hcommand
  split at hcommand
  case h_1 y0 y1 y2 y3 y4 rest =>
    split_ifs at hcommand with hstop
    · simp only [Except.ok.injEq, Prod.mk.injEq] at hcommand
      obtain ⟨rfl, rfl⟩ := hcommand
      exact .inl ⟨⟨y0, y1, y2, y3⟩, by simp [SlotGroup.syms, hstop], rfl⟩
    · split at hcommand
      case h_1 y5 y6 y7 y8 y9 y10 y11 y12 rest' =>
        simp only [Except.ok.injEq, Prod.mk.injEq] at hcommand
        obtain ⟨rfl, rfl⟩ := hcommand
        exact .inr ⟨⟨y0, y1, y2, y3⟩, ⟨y4, y5, y6, y7⟩, ⟨y8, y9, y10, y11⟩, y12, hstop, rfl, rfl⟩
      case h_2 => simp at hcommand
  case h_2 => simp at hcommand

/-! ### Commands -/

/-- The constant's own group is the one that matches it (R95, R106). -/
@[simp] theorem groupMatches_groupOf (v : LByte) : groupMatches (groupOf v) v = true := groupMatches_iff.mpr rfl

/-- No symbol of a logical byte is `STOP` (R95). -/
theorem groupOf_k0_ne_stop (v : LByte) : (groupOf v).k0 ≠ .sym .stop := by
  simp [groupOf, symAt_ne_stop]

theorem decodeShort_of_unknown {c : Cfg} {g : SlotGroup} (h : classifyShort c g = .unknown) :
    decodeShort c g = .unknownShort g := by
  simp [decodeShort, h]

theorem decodeLong_of_poll {c : Cfg} {g0 g1 g2 : SlotGroup} (x : Sym6) {r : Bool}
    (h : classifyLong c g0 g1 g2 = .poll r) : decodeLong c g0 g1 g2 x = if r then .poll1 else .poll0 := by
  cases r <;> simp [decodeLong, h]

theorem decodeLong_of_unknown {c : Cfg} {g0 g1 g2 : SlotGroup} (x : Sym6)
    (h : classifyLong c g0 g1 g2 = .unknown) : decodeLong c g0 g1 g2 x = .unknownLong g0 g1 g2 x := by
  simp [decodeLong, h]

/-- The word of `POLL r` is the twelve symbols of its three constants and a `STOP` (R62, R74). -/
theorem encode_poll (c : Cfg) (r : Bool) :
    encode c (if r then .poll1 else .poll0) = .stream ((groupOf c.cmdB0Poll).syms ++ (groupOf cmdB1Poll).syms ++
      (groupOf (pollB2 r)).syms ++ [.sym .stop]) := by
  cases r <;> rfl

/-- The word of `POLL r` decodes to it (R110, R111). -/
theorem decode_encode_poll (c : Cfg) (r : Bool) :
    decode c (encode c (if r then .poll1 else .poll0)) = .ok (if r then .poll1 else .poll0) := by
  have hpoll : classifyLong c (groupOf c.cmdB0Poll) (groupOf cmdB1Poll) (groupOf (pollB2 r)) = .poll r := by
    simp [classifyLong_eq_poll_iff]
  rw [encode_poll, decode_thirteen _ _ _ _ _ (groupOf_k0_ne_stop _), decodeLong_of_poll _ hpoll]

/-- An `UNKNOWN` pattern of the short path is well-formed exactly when it is classified so (R109). -/
theorem unknownShort_wf_iff (c : Cfg) (g : SlotGroup) :
    (Instr.unknownShort g).wf c = true ↔ classifyShort c g = .unknown := by
  simp [Instr.wf, classifyShort_eq_unknown_iff]

/-- An `UNKNOWN` pattern of the long path is well-formed exactly when its fifth symbol is not `STOP` and it is classified
so (R73, R112). -/
theorem unknownLong_wf_iff (c : Cfg) (g0 g1 g2 : SlotGroup) (x : Sym6) :
    (Instr.unknownLong g0 g1 g2 x).wf c = true ↔ g1.k0 ≠ .sym .stop ∧ classifyLong c g0 g1 g2 = .unknown := by
  simp [Instr.wf, classifyLong_eq_unknown_iff, or_assoc, imp_iff_not_or]

/-! ### Decode rows -/

/-- The decode row of a symbol on a byte (R80 to R85). -/
def decodeRow (p : PByte) : Sym6 → Instr
  | .sym .s00 => .decodeS00 p
  | .sym .s01 => .decodeS01 p
  | .sym .s10 => .decodeS10 p
  | .sym .s11 => .decodeS11 p
  | .sym .stop => .decodeStop p
  | .invalid => .decodeInvalid p

theorem decodePhys_eq_decodeRow (k : Cal) (p : PByte) : decodePhys k p = decodeRow p (decodeByte k p) := by
  unfold decodePhys decodeRow
  split <;> simp_all

@[simp] theorem encode_decodeRow (c : Cfg) (p : PByte) (y : Sym6) : encode c (decodeRow p y) = .phys p := by
  rcases y with (_ | _ | _ | _ | _) | _ <;> rfl

/-- A decode row is well-formed exactly when its byte decodes to its symbol (R80 to R85). -/
theorem decodeRow_wf_iff {c : Cfg} (h : c.wf = true) (p : PByte) (y : Sym6) :
    (decodeRow p y).wf c = true ↔ decodeByte c.cal p = y := by
  cases y with
  | sym s =>
    rw [decodeByte_eq_sym_iff (Cfg.wf_distinct h)]
    cases s <;> simp [decodeRow, Instr.wf, Cal.bytesOf]
  | invalid => simp [decodeRow, Instr.wf, decodeByte_eq_invalid_iff]

/-- The byte of a well-formed decode row decodes to that row. -/
theorem decode_encode_decodeRow {c : Cfg} (hc : c.wf = true) {p : PByte} {y : Sym6}
    (h : (decodeRow p y).wf c = true) : decode c (encode c (decodeRow p y)) = .ok (decodeRow p y) := by
  rw [encode_decodeRow, decode, decodePhys_eq_decodeRow, (decodeRow_wf_iff hc p y).mp h]

/-! ### Decode after encode, and encode after decode -/

/-- Settles O8: row by row, the word of the instruction is classified, or its byte decoded, as the row says. -/
theorem encodeDecodeAgree : Obligations.EncodeDecodeAgree := by
  intro c i hc hwf
  cases i with
  | probe =>
    rw [encode, decode_five, decodeShort, (classifyShort_eq_probe_iff c _).mpr (groupMatches_groupOf _)]
  | probeOrigin =>
    rw [encode, decode_five, decodeShort, (classifyShort_eq_probeOrigin_iff hc _).mpr (groupMatches_groupOf _)]
  | poll0 => exact decode_encode_poll c false
  | poll1 => exact decode_encode_poll c true
  | unknownShort b0 =>
    rw [encode, decode_five, decodeShort_of_unknown ((unknownShort_wf_iff c b0).mp hwf)]
  | unknownLong b0 b1 b2 x =>
    obtain ⟨hfifth, hunknown⟩ := (unknownLong_wf_iff c b0 b1 b2 x).mp hwf
    rw [encode, decode_thirteen _ _ _ _ _ hfifth, decodeLong_of_unknown x hunknown]
  | decodeS00 p => exact decode_encode_decodeRow (y := .sym .s00) hc hwf
  | decodeS01 p => exact decode_encode_decodeRow (y := .sym .s01) hc hwf
  | decodeS10 p => exact decode_encode_decodeRow (y := .sym .s10) hc hwf
  | decodeS11 p => exact decode_encode_decodeRow (y := .sym .s11) hc hwf
  | decodeStop p => exact decode_encode_decodeRow (y := .sym .stop) hc hwf
  | decodeInvalid p => exact decode_encode_decodeRow (y := .invalid) hc hwf
  | encodeS00 | encodeS01 | encodeS10 | encodeS11 | encodeStop => rfl
  | clean raw => rfl

/-- A SHORT command is well-formed, and its word is the five symbols it was decoded from. -/
theorem encode_decodeShort (c : Cfg) (hc : c.wf = true) (g : SlotGroup) :
    (decodeShort c g).wf c = true ∧ encode c (decodeShort c g) = .stream (g.syms ++ [.sym .stop]) := by
  cases hclass : classifyShort c g with
  | probe =>
    obtain rfl := groupMatches_iff.mp ((classifyShort_eq_probe_iff c g).mp hclass)
    simp [decodeShort, hclass, Instr.wf, encode]
  | probeOrigin =>
    obtain rfl := groupMatches_iff.mp ((classifyShort_eq_probeOrigin_iff hc g).mp hclass)
    simp [decodeShort, hclass, Instr.wf, encode]
  | poll r => exact absurd hclass (classifyShort_ne_poll c g r)
  | unknown =>
    rw [decodeShort_of_unknown hclass]
    exact ⟨(unknownShort_wf_iff c g).mpr hclass, rfl⟩

/-- Settles O9: a stream that decodes is a SHORT or a LONG command, and only the thirteenth symbol of a poll is not kept. -/
theorem decodedWordReencodes : Obligations.DecodedWordReencodes := by
  intro c w i hc h
  cases w with
  | stream ys =>
    obtain ⟨g, rfl, rfl⟩ | ⟨g0, g1, g2, x, hfifth, rfl, rfl⟩ := decode_stream_ok h
    · exact (encode_decodeShort c hc g).imp_right .inl
    · obtain ⟨r, hpoll⟩ | hunknown := classifyLong_cases c g0 g1 g2
      · obtain ⟨h0, h1, h2⟩ := (classifyLong_eq_poll_iff c g0 g1 g2 r).mp hpoll
        rw [decodeLong_of_poll x hpoll, groupMatches_iff.mp h0, groupMatches_iff.mp h1, groupMatches_iff.mp h2]
        exact ⟨by cases r <;> rfl, .inr ⟨by cases r <;> simp, _, .sym .stop, x, rfl, encode_poll c r, rfl⟩⟩
      · rw [decodeLong_of_unknown x hunknown]
        exact ⟨(unknownLong_wf_iff c g0 g1 g2 x).mpr ⟨hfifth, hunknown⟩, .inl rfl⟩
  | phys p =>
    have hrow : i = decodeRow p (decodeByte c.cal p) := by simpa [decode, decodePhys_eq_decodeRow] using h.symm
    rw [hrow]
    exact ⟨(decodeRow_wf_iff hc p _).mpr rfl, .inl (encode_decodeRow c p _)⟩
  | sym s =>
    have hrow : i = decodeSymRow s := by simpa [decode] using h.symm
    subst hrow
    exact ⟨by cases s <;> rfl, .inl (by cases s <;> rfl)⟩
  | snap raw =>
    have hrow : i = .clean raw := by simpa [decode] using h.symm
    subst hrow
    exact ⟨rfl, .inl rfl⟩

/-- Settles O10: the table's words and the streams of R74, evaluated. -/
theorem tableWordsDecode : Obligations.TableWordsDecode :=
  ⟨rfl, rfl, rfl, rfl, rfl, rfl, rfl, rfl⟩

end Sys2Proof
end

section
/-! PROOFS. The effect of a step, phase by phase: what each part of it writes. The rules of the whole machine and of its
cycles rest on these. -/

namespace Sys2Proof.Machine

/-! ### The receive step -/

/-- What an acquired symbol leaves before the parse goes on or ends: the byte taken and recorded, its symbol stored
(R100 to R105). -/
def received (n : Fin 13) (s : State) : State :=
  storeSymbol n (decodeByte s.cfg.cal s.inputs.rxData) (acquire s.inputs.rxData s)

theorem received_eq (n : Fin 13) (s : State) :
    received n s = { s with
      rxTake := false
      inputs := { s.inputs with rxReady := false }
      trace := s.trace ++ [.rxTake s.inputs.rxData]
      errors := s.errors ++ acquireErrors s.cfg.cal s.inputs.rxData
      slot0 := (received n s).slot0
      slot1 := (received n s).slot1
      slot2 := (received n s).slot2 } := by
  simp only [received, storeSymbol_eq, acquire_eq]

section
variable (n : Fin 13) (s : State)
@[simp] theorem received_cfg : (received n s).cfg = s.cfg := by rw [received_eq]
@[simp] theorem received_ph : (received n s).ph = s.ph := by rw [received_eq]
@[simp] theorem received_rxen : (received n s).rxen = s.rxen := by rw [received_eq]
@[simp] theorem received_cmd : (received n s).cmd = s.cmd := by rw [received_eq]
@[simp] theorem received_frame : (received n s).frame = s.frame := by rw [received_eq]
@[simp] theorem received_flen : (received n s).flen = s.flen := by rw [received_eq]
@[simp] theorem received_raw : (received n s).raw = s.raw := by rw [received_eq]
@[simp] theorem received_proc : (received n s).proc = s.proc := by rw [received_eq]
@[simp] theorem received_rxTake : (received n s).rxTake = false := by rw [received_eq]
@[simp] theorem received_txWrite : (received n s).txWrite = s.txWrite := by rw [received_eq]
@[simp] theorem received_txData : (received n s).txData = s.txData := by rw [received_eq]
@[simp] theorem received_stopAssert : (received n s).stopAssert = s.stopAssert := by rw [received_eq]
@[simp] theorem received_inId : (received n s).inId = s.inId := by rw [received_eq]
@[simp] theorem received_upcoming : (received n s).upcoming = s.upcoming := by rw [received_eq]
@[simp] theorem received_tick : (received n s).tick = s.tick := by rw [received_eq]
@[simp] theorem received_trace : (received n s).trace = s.trace ++ [.rxTake s.inputs.rxData] := by rw [received_eq]
@[simp] theorem received_errors :
    (received n s).errors = s.errors ++ acquireErrors s.cfg.cal s.inputs.rxData := by rw [received_eq]
@[simp] theorem received_encOut : (received n s).encOut = s.encOut := by rw [received_eq]
end

/-- A slot group is complete once the symbols of the next byte arrive (R102 to R105). -/
theorem received_slot0_of_le {n : Fin 13} (h : 4 ≤ n.val) (s : State) : (received n s).slot0 = s.slot0 := by
  simp [received, storeSymbol_eq, acquire_eq, show ¬ n.val < 4 by omega]

theorem received_slot1_of_le {n : Fin 13} (h : 8 ≤ n.val) (s : State) : (received n s).slot1 = s.slot1 := by
  simp [received, storeSymbol_eq, acquire_eq, show ¬ n.val < 8 by omega]

theorem received_slot2_of_le {n : Fin 13} (h : 12 ≤ n.val) (s : State) : (received n s).slot2 = s.slot2 := by
  simp [received, storeSymbol_eq, acquire_eq, show ¬ n.val < 12 by omega]

/-! ### The end of a parse -/

/-- The end of a parse in one update (R102, R105, R130). -/
theorem conclude_eq_update (c : Cmd) (err : Option ErrorRecord) (s : State) :
    conclude c err s = { s with
      cmd := c
      errors := s.errors ++ err.toList
      ph := dispatchPhase c
      rxen := if c = .probe then false else s.rxen
      frame := if c = .probe then idFrame s.frame else s.frame
      flen := if c = .probe then .id3 else s.flen } := by
  rw [conclude_eq, dispatch_eq]
  cases c <;> rfl

/-- The error of a parse, as the records it appends (R109, R112). -/
theorem shortError_toList (c : Cmd) (b0 : SlotGroup) :
    (shortError c b0).toList = if c = .unknown then [.unknownCmdShort b0] else [] := by
  unfold shortError
  split <;> rfl

theorem longError_toList (c : Cmd) (b0 b1 b2 : SlotGroup) :
    (longError c b0 b1 b2).toList = if c = .unknown then [.unknownCmdLong b0 b1 b2] else [] := by
  unfold longError
  split <;> rfl

/-- No parse ends in the stop phase (R130). -/
theorem dispatchPhase_ne_stopp (c : Cmd) : dispatchPhase c ≠ .stopp := by
  cases c <;> simp [dispatchPhase]

section
variable (c : Cmd) (err : Option ErrorRecord) (s : State)
@[simp] theorem conclude_cfg : (conclude c err s).cfg = s.cfg := by rw [conclude_eq_update]
@[simp] theorem conclude_ph : (conclude c err s).ph = dispatchPhase c := by rw [conclude_eq_update]
@[simp] theorem conclude_rxen : (conclude c err s).rxen = if c = .probe then false else s.rxen := by
  rw [conclude_eq_update]
@[simp] theorem conclude_slot0 : (conclude c err s).slot0 = s.slot0 := by rw [conclude_eq_update]
@[simp] theorem conclude_slot1 : (conclude c err s).slot1 = s.slot1 := by rw [conclude_eq_update]
@[simp] theorem conclude_slot2 : (conclude c err s).slot2 = s.slot2 := by rw [conclude_eq_update]
@[simp] theorem conclude_cmd : (conclude c err s).cmd = c := by rw [conclude_eq_update]
@[simp] theorem conclude_frame : (conclude c err s).frame = if c = .probe then idFrame s.frame else s.frame := by
  rw [conclude_eq_update]
@[simp] theorem conclude_flen : (conclude c err s).flen = if c = .probe then .id3 else s.flen := by
  rw [conclude_eq_update]
@[simp] theorem conclude_raw : (conclude c err s).raw = s.raw := by rw [conclude_eq_update]
@[simp] theorem conclude_proc : (conclude c err s).proc = s.proc := by rw [conclude_eq_update]
@[simp] theorem conclude_rxTake : (conclude c err s).rxTake = s.rxTake := by rw [conclude_eq_update]
@[simp] theorem conclude_txWrite : (conclude c err s).txWrite = s.txWrite := by rw [conclude_eq_update]
@[simp] theorem conclude_txData : (conclude c err s).txData = s.txData := by rw [conclude_eq_update]
@[simp] theorem conclude_stopAssert : (conclude c err s).stopAssert = s.stopAssert := by rw [conclude_eq_update]
@[simp] theorem conclude_inId : (conclude c err s).inId = s.inId := by rw [conclude_eq_update]
@[simp] theorem conclude_inputs : (conclude c err s).inputs = s.inputs := by rw [conclude_eq_update]
@[simp] theorem conclude_upcoming : (conclude c err s).upcoming = s.upcoming := by rw [conclude_eq_update]
@[simp] theorem conclude_tick : (conclude c err s).tick = s.tick := by rw [conclude_eq_update]
@[simp] theorem conclude_trace : (conclude c err s).trace = s.trace := by rw [conclude_eq_update]
@[simp] theorem conclude_errors : (conclude c err s).errors = s.errors ++ err.toList := by rw [conclude_eq_update]
@[simp] theorem conclude_encOut : (conclude c err s).encOut = s.encOut := by rw [conclude_eq_update]
end

/-! ### The other steps -/

section
variable (s : State)
@[simp] theorem buildFrame_cfg : (buildFrame s).cfg = s.cfg := by rw [buildFrame_eq]
@[simp] theorem buildFrame_slot0 : (buildFrame s).slot0 = s.slot0 := by rw [buildFrame_eq]
@[simp] theorem buildFrame_slot1 : (buildFrame s).slot1 = s.slot1 := by rw [buildFrame_eq]
@[simp] theorem buildFrame_slot2 : (buildFrame s).slot2 = s.slot2 := by rw [buildFrame_eq]
@[simp] theorem buildFrame_cmd : (buildFrame s).cmd = s.cmd := by rw [buildFrame_eq]
@[simp] theorem buildFrame_frame : (buildFrame s).frame =
    if s.cmd = .probeOrigin then originTail (stateFrame s.cfg.axes s.proc s.frame)
    else stateFrame s.cfg.axes s.proc s.frame := by rw [buildFrame_eq]
@[simp] theorem buildFrame_flen :
    (buildFrame s).flen = if s.cmd = .probeOrigin then .origin10 else .state8 := by rw [buildFrame_eq]
@[simp] theorem buildFrame_rxTake : (buildFrame s).rxTake = s.rxTake := by rw [buildFrame_eq]
@[simp] theorem buildFrame_txWrite : (buildFrame s).txWrite = s.txWrite := by rw [buildFrame_eq]
@[simp] theorem buildFrame_txData : (buildFrame s).txData = s.txData := by rw [buildFrame_eq]
@[simp] theorem buildFrame_stopAssert : (buildFrame s).stopAssert = s.stopAssert := by rw [buildFrame_eq]
@[simp] theorem buildFrame_inputs : (buildFrame s).inputs = s.inputs := by rw [buildFrame_eq]
@[simp] theorem buildFrame_upcoming : (buildFrame s).upcoming = s.upcoming := by rw [buildFrame_eq]
@[simp] theorem buildFrame_tick : (buildFrame s).tick = s.tick := by rw [buildFrame_eq]
@[simp] theorem buildFrame_trace : (buildFrame s).trace = s.trace := by rw [buildFrame_eq]
@[simp] theorem buildFrame_errors : (buildFrame s).errors = s.errors := by rw [buildFrame_eq]
@[simp] theorem buildFrame_encOut : (buildFrame s).encOut = s.encOut := by rw [buildFrame_eq]
end

section
variable (j : Fin 40) (s : State)
@[simp] theorem afterPut_cfg : (afterPut j s).cfg = s.cfg := by rw [afterPut_eq]
@[simp] theorem afterPut_rxen : (afterPut j s).rxen = s.rxen := by rw [afterPut_eq]
@[simp] theorem afterPut_slot0 : (afterPut j s).slot0 = s.slot0 := by rw [afterPut_eq]
@[simp] theorem afterPut_slot1 : (afterPut j s).slot1 = s.slot1 := by rw [afterPut_eq]
@[simp] theorem afterPut_slot2 : (afterPut j s).slot2 = s.slot2 := by rw [afterPut_eq]
@[simp] theorem afterPut_cmd : (afterPut j s).cmd = s.cmd := by rw [afterPut_eq]
@[simp] theorem afterPut_frame : (afterPut j s).frame = s.frame := by rw [afterPut_eq]
@[simp] theorem afterPut_flen : (afterPut j s).flen = s.flen := by rw [afterPut_eq]
@[simp] theorem afterPut_raw : (afterPut j s).raw = s.raw := by rw [afterPut_eq]
@[simp] theorem afterPut_proc : (afterPut j s).proc = s.proc := by rw [afterPut_eq]
@[simp] theorem afterPut_rxTake : (afterPut j s).rxTake = s.rxTake := by rw [afterPut_eq]
@[simp] theorem afterPut_txWrite : (afterPut j s).txWrite = s.txWrite := by rw [afterPut_eq]
@[simp] theorem afterPut_stopAssert : (afterPut j s).stopAssert = s.stopAssert := by rw [afterPut_eq]
@[simp] theorem afterPut_inId : (afterPut j s).inId = s.inId := by rw [afterPut_eq]
@[simp] theorem afterPut_inputs : (afterPut j s).inputs = s.inputs := by rw [afterPut_eq]
@[simp] theorem afterPut_upcoming : (afterPut j s).upcoming = s.upcoming := by rw [afterPut_eq]
@[simp] theorem afterPut_tick : (afterPut j s).tick = s.tick := by rw [afterPut_eq]
@[simp] theorem afterPut_trace : (afterPut j s).trace = s.trace := by rw [afterPut_eq]
@[simp] theorem afterPut_errors : (afterPut j s).errors = s.errors := by rw [afterPut_eq]
end

/-- Where a transmit step goes: to the next symbol inside the response, to `DRAIN` after its last byte (R146). -/
theorem afterPut_cases (j : Fin 40) (s : State) :
    (∃ h : j.val + 1 < 40, j.val + 1 < 4 * s.flen.toNat ∧ afterPut j s = goto (.tx ⟨j.val + 1, h⟩) s) ∨
    (¬ j.val + 1 < 4 * s.flen.toNat ∧ afterPut j s = goto .drain s) := by
  have hflen : s.flen.toNat ≤ 10 := by cases s.flen <;> decide
  by_cases hj : j.val + 1 < 4 * s.flen.toNat
  · exact .inl ⟨by omega, hj, by simp [afterPut, hj]⟩
  · exact .inr ⟨hj, by simp [afterPut, hj]⟩

/-- Inside the response the next symbol follows (R146). -/
theorem afterPut_of_lt {j : Fin 40} {s : State} (h : j.val + 1 < 40) (hj : j.val + 1 < 4 * s.flen.toNat) :
    afterPut j s = goto (.tx ⟨j.val + 1, h⟩) s := by
  simp [afterPut, hj]

/-- After the last byte of the response the core drains (R146). -/
theorem afterPut_of_not_lt {j : Fin 40} {s : State} (hj : ¬ j.val + 1 < 4 * s.flen.toNat) :
    afterPut j s = goto .drain s := by
  simp [afterPut, hj]

/-! ### The effect of each phase -/

theorem effect_of_rx_ready {s : State} {n : Fin 13} (hp : s.ph = .rx n) (hr : rxReady s = true) :
    effect s = afterSymbol n (decodeByte s.cfg.cal s.inputs.rxData) (received n s) := by
  simp [effect, hp, hr, received]

/-- The effect of the `STOP` that ends a short command: the slots of byte 0 are classified (R102). -/
theorem effect_of_short {s : State} (hp : s.ph = .rx 4) (hr : rxReady s = true)
    (hstop : decodeByte s.cfg.cal s.inputs.rxData = .sym .stop) :
    effect s = conclude (classifyShort s.cfg s.slot0) (shortError (classifyShort s.cfg s.slot0) s.slot0)
      (received 4 s) := by
  simp [effect_of_rx_ready hp hr, afterSymbol, hstop, concludeShort, received_slot0_of_le]

/-- The effect of the thirteenth symbol: all twelve slots are classified (R105). -/
theorem effect_of_long {s : State} (hp : s.ph = .rx 12) (hr : rxReady s = true) :
    effect s = conclude (classifyLong s.cfg s.slot0 s.slot1 s.slot2)
      (longError (classifyLong s.cfg s.slot0 s.slot1 s.slot2) s.slot0 s.slot1 s.slot2) (received 12 s) := by
  simp [effect_of_rx_ready hp hr, afterSymbol, concludeLong, received_slot0_of_le, received_slot1_of_le,
    received_slot2_of_le]

theorem effect_of_refresh {s : State} (hp : s.ph = .refresh) :
    effect s = goto (.tx 0) (disableReceiver (buildFrame
      (setSnapshots s.inputs.buttons (process s.inputs.buttons) (readInputs s.inputs.buttons s)))) := by
  simp [effect, hp]

theorem effect_of_tx_ready {s : State} {j : Fin 40} (hp : s.ph = .tx j) (hr : txReady s = true) :
    effect s = afterPut j (txPutByte (txByte s.cfg.cal s.frame j) (encodeLookup (txSym s.frame j) s)) := by
  simp [effect, hp, hr]

theorem effect_of_drained {s : State} (hp : s.ph = .drain) (hr : txComplete s = true) : effect s = goto .stopp s := by
  simp [effect, hp, drain, hr]

theorem effect_of_stopp {s : State} (hp : s.ph = .stopp) :
    effect s = goto (.rx 0) (enableReceiver (stopPulse s)) := by
  simp [effect, hp, stopStep]

/-- While the condition of its phase does not hold the core does nothing (R203). -/
theorem effect_of_waits {s : State} (h : Waits s) : effect s = s := by
  unfold Waits at h
  unfold effect
  split at h <;> simp_all [drain]

/-- Everything the effect of a step can be: one case for each kind of step of R14, and the wait (R203). -/
inductive Effect (s : State) : Prop
  /-- Nothing, while the condition of the phase does not hold. -/
  | wait (hwait : Waits s) (h : effect s = s)
  /-- A symbol that ends no command (R101, R103, R104, the else branch of R102). -/
  | symbol (n : Fin 13) (hp : s.ph = .rx n) (hr : rxReady s = true) (hn : n.val + 1 < 13)
      (hstop : ¬ (n.val = 4 ∧ decodeByte s.cfg.cal s.inputs.rxData = .sym .stop))
      (h : effect s = goto (.rx ⟨n.val + 1, hn⟩) (received n s))
  /-- The `STOP` that ends a short command (R102). -/
  | short (hp : s.ph = .rx 4) (hr : rxReady s = true)
      (hstop : decodeByte s.cfg.cal s.inputs.rxData = .sym .stop)
      (h : effect s = conclude (classifyShort s.cfg s.slot0)
        (shortError (classifyShort s.cfg s.slot0) s.slot0) (received 4 s))
  /-- The thirteenth symbol, which ends a long command (R105). -/
  | long (hp : s.ph = .rx 12) (hr : rxReady s = true)
      (h : effect s = conclude (classifyLong s.cfg s.slot0 s.slot1 s.slot2)
        (longError (classifyLong s.cfg s.slot0 s.slot1 s.slot2) s.slot0 s.slot1 s.slot2) (received 12 s))
  /-- The refresh step (R132). -/
  | refresh (hp : s.ph = .refresh)
      (h : effect s = goto (.tx 0) (disableReceiver (buildFrame
        (setSnapshots s.inputs.buttons (process s.inputs.buttons) (readInputs s.inputs.buttons s)))))
  /-- The transmit step (R146). -/
  | put (j : Fin 40) (hp : s.ph = .tx j) (hr : txReady s = true)
      (h : effect s = afterPut j (txPutByte (txByte s.cfg.cal s.frame j) (encodeLookup (txSym s.frame j) s)))
  /-- The drain step (R147). -/
  | drained (hp : s.ph = .drain) (hr : txComplete s = true) (h : effect s = goto .stopp s)
  /-- The stop step (R148). -/
  | stop (hp : s.ph = .stopp) (h : effect s = goto (.rx 0) (enableReceiver (stopPulse s)))

theorem effect_cases (s : State) : Effect s := by
  by_cases hwait : Waits s
  · exact .wait hwait (effect_of_waits hwait)
  cases hp : s.ph with
  | rx n =>
    have hr : rxReady s = true := by simpa [Waits, hp] using hwait
    by_cases hshort : n.val = 4 ∧ decodeByte s.cfg.cal s.inputs.rxData = .sym .stop
    · obtain ⟨hn, hstop⟩ := hshort
      obtain rfl : n = 4 := Fin.ext hn
      exact .short hp hr hstop (effect_of_short hp hr hstop)
    · by_cases hlong : n.val = 12
      · obtain rfl : n = 12 := Fin.ext hlong
        exact .long hp hr (effect_of_long hp hr)
      · exact .symbol n hp hr (by omega) hshort (by rw [effect_of_rx_ready hp hr, afterSymbol_goes_on _ hshort])
  | refresh => exact .refresh hp (effect_of_refresh hp)
  | tx j =>
    have hr : txReady s = true := by simpa [Waits, hp] using hwait
    exact .put j hp hr (effect_of_tx_ready hp hr)
  | drain =>
    have hr : txComplete s = true := by simpa [Waits, hp] using hwait
    exact .drained hp hr (effect_of_drained hp hr)
  | stopp => exact .stop hp (effect_of_stopp hp)

end Sys2Proof.Machine
end

section
/-! PROOFS. The rules of the whole machine: what a step answers, what it appends to its records, which registers it may
write, and the two invariants. -/

namespace Sys2Proof.Machine

/-- Settles O13: a configuration that meets its constraints has an effect, any other is refused before one. -/
theorem stepProceedsOrRefusesConfiguration : Obligations.StepProceedsOrRefusesConfiguration := fun s =>
  ⟨fun hc => ⟨_, step_eq hc⟩, fun hc => by simp [step, hc]⟩

/-! ### Events -/

theorem stepEvents_of_waits {s : State} (h : Waits s) : stepEvents s = [] := by
  unfold Waits at h
  unfold stepEvents
  split at h <;> simp_all

/-- The core appends to `TRACE` the event of its phase and nothing else (R28, R52). -/
theorem effect_trace (s : State) : (effect s).trace = s.trace ++ stepEvents s := by
  cases effect_cases s with
  | wait hwait h => simp [h, stepEvents_of_waits hwait]
  | symbol n hp hr hn hstop h => simp [h, stepEvents, hp, hr]
  | short hp hr hstop h => simp [h, stepEvents, hp, hr]
  | long hp hr h => simp [h, stepEvents, hp, hr]
  | refresh hp h => simp [h, stepEvents, hp]
  | put j hp hr h => simp [h, stepEvents, hp, hr]
  | drained hp hr h => simp [h, stepEvents, hp]
  | stop hp h => simp [h, stepEvents, hp]

/-- Settles O41: the environment's move leaves the trace as the effect made it. -/
theorem eventsByPhase : Obligations.EventsByPhase := by
  intro s t hstep
  obtain ⟨-, rfl⟩ := step_next hstep
  rw [advance_trace, effect_trace]

/-- Everything an event of a step can be. -/
theorem mem_stepEvents {s : State} {e : Event} (h : e ∈ stepEvents s) :
    (rxReady s = true ∧ e = .rxTake s.inputs.rxData) ∨ e = .inRefresh s.inputs.buttons ∨
    (∃ j, e = .txPut (txByte s.cfg.cal s.frame j)) ∨ (s.ph = .stopp ∧ e = .stopPulse) := by
  unfold stepEvents at h
  split at h
  case h_1 => exact .inl (by split at h <;> simp_all)
  case h_2 => exact .inr (.inl (List.mem_singleton.mp h))
  case h_3 j _ => exact .inr (.inr (.inl ⟨j, by split at h <;> simp_all⟩))
  case h_4 => simp at h
  case h_5 hp => exact .inr (.inr (.inr ⟨hp, List.mem_singleton.mp h⟩))

/-- Settles O44: with `RXEN = 0` no event of the step is an `RxTake`. -/
theorem noReceiveWhileDisabled : Obligations.NoReceiveWhileDisabled := by
  intro s t hoff hstep
  have hnone : takenBytes (stepEvents s) = [] := by
    refine List.filterMap_eq_nil_iff.mpr fun e he => ?_
    obtain ⟨hr, -⟩ | rfl | ⟨j, rfl⟩ | ⟨-, rfl⟩ := mem_stepEvents he
    · simp [rxReady, hoff] at hr
    all_goals rfl
  rw [eventsByPhase s t hstep, takenBytes, List.filterMap_append]
  simpa [takenBytes] using hnone

/-- Settles O43: of the effects only that of `DRAIN` enters `STOPP`, and of the events only that of `STOPP` is a pulse. -/
theorem stopOnlyAfterDrain : Obligations.StopOnlyAfterDrain := by
  intro s t hstep
  refine ⟨?_, fun hp => ?_, fun hp => ?_⟩
  · obtain ⟨-, rfl⟩ := step_next hstep
    rw [advance_ph]
    intro hstopp
    cases effect_cases s with
    | drained hp hr h => exact ⟨hp, hr⟩
    | wait hwait h =>
      rw [h] at hstopp
      simp [Waits, hstopp] at hwait
    | symbol n hp hr hn hstop h => simp [h] at hstopp
    | short hp hr hstop h => exact absurd (by simpa [h] using hstopp) (dispatchPhase_ne_stopp _)
    | long hp hr h => exact absurd (by simpa [h] using hstopp) (dispatchPhase_ne_stopp _)
    | refresh hp h => simp [h] at hstopp
    | put j hp hr h =>
      obtain ⟨_, -, hput⟩ | ⟨-, hput⟩ := afterPut_cases j
        (txPutByte (txByte s.cfg.cal s.frame j) (encodeLookup (txSym s.frame j) s)) <;>
      simp [h, hput] at hstopp
    | stop hp h => simp [h] at hstopp
  · simp [eventsByPhase s t hstep, stopPulses, stepEvents, hp]
  · have hnone : .stopPulse ∉ stepEvents s := fun he => by
      obtain ⟨-, he⟩ | he | ⟨j, he⟩ | ⟨hstopp, -⟩ := mem_stepEvents he
      · cases he
      · cases he
      · cases he
      · exact hp hstopp
    rw [eventsByPhase s t hstep, stopPulses, List.count_append, List.count_eq_zero.mpr hnone]
    rfl

/-! ### Registers and errors -/

/-- Settles O42: each effect of a step writes the registers of its own phase. -/
theorem registersWrittenByTheirSteps : Obligations.RegistersWrittenByTheirSteps := by
  intro s t hstep
  obtain ⟨-, rfl⟩ := step_next hstep
  have hprobe : ∀ c, c = .probe → dispatchPhase c = .tx 0 := fun _ hc => hc ▸ rfl
  cases effect_cases s with
  | wait hwait h => simp [h]
  | symbol n hp hr hn hstop h => simp [h, hp]
  | short hp hr hstop h => simpa [h, hp] using fun _ => hprobe _
  | long hp hr h => simpa [h, hp] using fun _ => hprobe _
  | refresh hp h => simp [h, hp]
  | put j hp hr h => simp [h, hp]
  | drained hp hr h => simp [h]
  | stop hp h => simp [h, hp]

/-- Settles O45: the byte taken, and at the end of a parse the command, are what an effect may record. -/
theorem errorsByStep : Obligations.ErrorsByStep := by
  intro s t hstep
  obtain ⟨-, rfl⟩ := step_next hstep
  cases effect_cases s with
  | wait hwait h =>
    refine ⟨fun _ => by simp [h], fun n hp hr => ?_⟩
    simp [Waits, hp, hr] at hwait
  | symbol n hp hr hn hstop h =>
    have hlast : n.val ≠ 12 := by omega
    simp [h, hp, hr, acquireErrors, hstop, hlast]
  | short hp hr hstop h => simp [h, hp, hr, hstop, acquireErrors, shortError_toList]
  | long hp hr h => simp [h, hp, hr, acquireErrors, longError_toList]
  | refresh hp h => simp [h, hp]
  | put j hp hr h => simp [h, hp]
  | drained hp hr h => simp [h, hp]
  | stop hp h => simp [h, hp]

/-! ### The invariant -/

/-- The environment's move keeps the invariant: it writes none of its registers. -/
theorem Inv.advance {s : State} (h : Inv s) : Inv (advance s) where
  cfgWf := by simpa using h.cfgWf
  rxen := by simpa using h.rxen
  lines := by simpa [LinesIdle] using h.lines
  agrees := by simpa [PhaseAgrees, FrameAnswers] using h.agrees

/-- The end of a parse establishes the invariant whatever the command is (R130). -/
theorem inv_conclude {s : State} (c : Cmd) (err : Option ErrorRecord) (hwf : s.cfg.wf = true) (hrxen : s.rxen = true)
    (hlines : LinesIdle s) : Inv (conclude c err s) where
  cfgWf := by simpa using hwf
  rxen := by cases c <;> simp [hrxen, dispatchPhase, receiverPhase]
  lines := by simpa [LinesIdle] using hlines
  agrees := by
    cases c <;> simp [PhaseAgrees, dispatchPhase, FrameAnswers, FrameLen.toNat, idFrame, idByte0, idByte1, idByte2]

/-- A frame built from a snapshot is unchanged when it is built from it once more: bytes 0 to 7 are written anew, the
others kept (R134 to R140). -/
theorem stateFrame_stateFrame (x : Axes) (m : Snapshot) (f : Vector LByte 10) :
    stateFrame x m (stateFrame x m f) = stateFrame x m f := rfl

theorem stateFrame_originTail (x : Axes) (m : Snapshot) (f : Vector LByte 10) :
    stateFrame x m (originTail (stateFrame x m f)) = originTail (stateFrame x m f) := rfl

/-- Settles O16: every effect keeps `Inv`; the frame is made the answer to `CMD` at the end of a `PROBE` and in `REFRESH`,
and stays so until the response has been sent. -/
theorem stepKeepsInvariant : Obligations.StepKeepsInvariant := by
  intro s t hinv hstep
  obtain ⟨-, rfl⟩ := step_next hstep
  apply Inv.advance
  obtain ⟨hwf, hrxen, hlines, hagrees⟩ := hinv
  obtain ⟨htake, hwrite, hstopAssert⟩ := id hlines
  cases effect_cases s with
  | wait hwait h =>
    rw [h]
    exact ⟨hwf, hrxen, hlines, hagrees⟩
  | symbol n hp hr hn hstop h =>
    rw [h]
    exact ⟨by simpa using hwf, by simp [hrxen, hp, receiverPhase], by simp [LinesIdle, hwrite, hstopAssert], trivial⟩
  | short hp hr hstop h =>
    rw [h]
    exact inv_conclude _ _ (by simpa using hwf) (by simp [hrxen, hp, receiverPhase])
      (by simp [LinesIdle, hwrite, hstopAssert])
  | long hp hr h =>
    rw [h]
    exact inv_conclude _ _ (by simpa using hwf) (by simp [hrxen, hp, receiverPhase])
      (by simp [LinesIdle, hwrite, hstopAssert])
  | refresh hp h =>
    rw [h]
    refine ⟨by simpa using hwf, by simp [receiverPhase], by simpa [LinesIdle] using hlines, ?_⟩
    simp only [PhaseAgrees, hp] at hagrees
    obtain hcmd | ⟨r, hcmd⟩ := hagrees
    · have htail : ∀ f : Vector LByte 10, (originTail f)[8] = 0 ∧ (originTail f)[9] = 0 := fun _ => ⟨rfl, rfl⟩
      simp [PhaseAgrees, FrameAnswers, hcmd, stateFrame_originTail, FrameLen.toNat, htail]
    · simp [PhaseAgrees, FrameAnswers, hcmd, stateFrame_stateFrame, FrameLen.toNat]
  | put j hp hr h =>
    rw [h]
    have hoff : s.rxen = false := by simp [hrxen, hp, receiverPhase]
    simp only [PhaseAgrees, hp] at hagrees
    obtain ⟨-, hframe⟩ := hagrees
    obtain ⟨_, hj, hput⟩ | ⟨-, hput⟩ := afterPut_cases j
        (txPutByte (txByte s.cfg.cal s.frame j) (encodeLookup (txSym s.frame j) s)) <;>
      rw [hput] <;>
      refine ⟨by simpa using hwf, by simp [hoff, receiverPhase], by simp [LinesIdle, htake, hstopAssert], ?_⟩
    · exact ⟨hj, by simpa [FrameAnswers] using hframe⟩
    · simpa [PhaseAgrees, FrameAnswers] using hframe
  | drained hp hr h =>
    rw [h]
    exact ⟨by simpa using hwf, by simp [hrxen, hp, receiverPhase], hlines,
      by simpa [PhaseAgrees, FrameAnswers, hp] using hagrees⟩
  | stop hp h =>
    rw [h]
    exact ⟨by simpa using hwf, by simp [receiverPhase], by simp [LinesIdle, htake, hwrite], trivial⟩

/-- The bytes of a response are canonical: `TXB(j)` encodes a data symbol (R96, R145). -/
theorem txByte_canonical (k : Cal) (f : Vector LByte 10) (j : Fin 40) :
    txByte k f j = k.a ∨ txByte k f j = k.c ∨ txByte k f j = k.e ∨ txByte k f j = k.g := by
  have hdata : txSym f j ≠ .stop := symAt_ne_stop _ _
  unfold txByte
  cases hy : txSym f j <;> simp_all [encodeSym]

/-- Settles O17: the one `TxPut` a step may append is of a byte `TXB(j)`. -/
theorem stepKeepsCanonicalTrace : Obligations.StepKeepsCanonicalTrace := by
  intro s t hcanonical hstep p hp
  obtain ⟨hcfg, -⟩ := registersWrittenByTheirSteps s t hstep
  rw [eventsByPhase s t hstep, List.mem_append] at hp
  rw [hcfg]
  obtain hold | hnew := hp
  · exact hcanonical p hold
  · obtain ⟨-, he⟩ | he | ⟨j, he⟩ | ⟨-, he⟩ := mem_stepEvents hnew
    · cases he
    · cases he
    · obtain rfl := Event.txPut.inj he
      exact txByte_canonical _ _ j
    · cases he

end Sys2Proof.Machine
end

section
/-! PROOFS. The rows of the table one by one: the whole next state of each meaning, and where it stops. -/

namespace Sys2Proof.Machine

/-! ### The command rows -/

/-- A command row in its terminal phase with a byte waiting (R102, R105). -/
theorem terminal_ready {n : Fin 13} (c : Cmd) (err : Option ErrorRecord) {s : State} (hp : s.ph = .rx n)
    (hr : rxReady s = true) : terminal n c err s = .next (conclude c err (received n s)) := by
  simp [terminal, hp, hr, received]

/-- The fifth symbol is stored in slot 0 of byte 1 (R102). -/
theorem received_four (s : State) : received 4 s = { s with
    rxTake := false
    inputs := { s.inputs with rxReady := false }
    trace := s.trace ++ [.rxTake s.inputs.rxData]
    errors := s.errors ++ acquireErrors s.cfg.cal s.inputs.rxData
    slot1 := { s.slot1 with k0 := decodeByte s.cfg.cal s.inputs.rxData } } := by
  simp [received, storeSymbol_eq, acquire_eq, putSlot]

/-- The thirteenth symbol is not stored (R105). -/
theorem received_twelve (s : State) : received 12 s = { s with
    rxTake := false
    inputs := { s.inputs with rxReady := false }
    trace := s.trace ++ [.rxTake s.inputs.rxData]
    errors := s.errors ++ acquireErrors s.cfg.cal s.inputs.rxData } := by
  simp [received, storeSymbol_eq, acquire_eq]

/-- A byte that is read as `STOP` is no undefined one (R85). -/
theorem acquireErrors_of_stop {k : Cal} {p : PByte} (h : decodeByte k p = .sym .stop) : acquireErrors k p = [] := by
  simp [acquireErrors, h]

/-- Settles O18: the short path's terminal step, then the identification frame and the phase `TX(0)`. -/
theorem probeCompletes : Obligations.ProbeCompletes := by
  intro s hp hr hstop
  calc exec .probe s
    _ = .next (conclude .probe none (received 4 s)) := terminal_ready .probe none hp hr
    _ = _ := by simp [conclude_eq_update, received_four, acquireErrors_of_stop hstop, hstop, dispatchPhase, idFrame,
      idByte0, idByte1, idByte2]

/-- Settles O19: the short path's terminal step, then the phase `REFRESH`. -/
theorem probeOriginCompletes : Obligations.ProbeOriginCompletes := by
  intro s hp hr hstop
  calc exec .probeOrigin s
    _ = .next (conclude .probeOrigin none (received 4 s)) := terminal_ready .probeOrigin none hp hr
    _ = _ := by simp [conclude_eq_update, received_four, acquireErrors_of_stop hstop, hstop, dispatchPhase]

/-- Settles O20: both polls are the long path's terminal step, then the phase `REFRESH`. -/
theorem pollCommandsComplete : Obligations.PollCommandsComplete := by
  intro s i r hi hp hr
  have hexec : exec i s = terminal 12 (.poll r) none s := by
    simp only [List.mem_cons, Prod.mk.injEq, List.not_mem_nil, or_false] at hi
    obtain ⟨rfl, rfl⟩ | ⟨rfl, rfl⟩ := hi <;> rfl
  rw [hexec, terminal_ready _ _ hp hr]
  simp [conclude_eq_update, received_twelve, acquireErrors, dispatchPhase]

/-- Settles O21: the terminal step of either path, which for `Unknown` ends the cycle. -/
theorem unknownCommandsComplete : Obligations.UnknownCommandsComplete := by
  intro s b0 b1 b2 x hr
  refine ⟨fun hp hstop => ?_, fun hp => ?_⟩
  · calc exec (.unknownShort b0) s
      _ = .next (conclude .unknown (some (.unknownCmdShort b0)) (received 4 s)) := terminal_ready _ _ hp hr
      _ = _ := by simp [conclude_eq_update, received_four, acquireErrors_of_stop hstop, hstop, dispatchPhase]
  · calc exec (.unknownLong b0 b1 b2 x) s
      _ = .next (conclude .unknown (some (.unknownCmdLong b0 b1 b2)) (received 12 s)) := terminal_ready _ _ hp hr
      _ = _ := by simp [conclude_eq_update, received_twelve, acquireErrors, dispatchPhase]

/-! ### The codec rows -/

/-- Settles O23: both are the receive step that takes the `STOP`. -/
theorem fifthStopRunsCommand : Obligations.FifthStopRunsCommand := by
  intro s hp hr hstop
  rw [exec_decodeShort hp hr hstop]
  exact receiveAs_wf hstop

/-- Settles O24: both are the receive step that takes the thirteenth symbol. -/
theorem thirteenthSymbolRunsCommand : Obligations.ThirteenthSymbolRunsCommand := by
  intro s y i hrow hy hp hr
  rw [exec_of_mem_decodeRows hrow, receiveAs_wf hy, exec_decodeLong hp hr hy]

/-- A transmit step in `TX(j)` with the transmitter ready (R146). -/
theorem transmit_ready {y : Sym} {s : State} {j : Fin 40} (hp : s.ph = .tx j) (hr : txReady s = true) :
    transmit y s = .next (afterPut j (txPutByte (encodeSym s.cfg.cal y) (encodeLookup y s))) := by
  simp [transmit, hp, hr]

/-- Each encode row of a data symbol is the transmit step that sends the row's byte (R86 to R89). -/
theorem exec_of_mem_dataEncodeRows {k : Cal} {i : Instr} {b : PByte} (hrow : (i, b) ∈ dataEncodeRows k) :
    ∃ y, encodeSym k y = b ∧ ∀ s, exec i s = transmit y s := by
  simp only [dataEncodeRows, List.mem_cons, Prod.mk.injEq, List.not_mem_nil, or_false] at hrow
  obtain ⟨rfl, rfl⟩ | ⟨rfl, rfl⟩ | ⟨rfl, rfl⟩ | ⟨rfl, rfl⟩ := hrow
  exacts [⟨.s00, rfl, fun _ => rfl⟩, ⟨.s01, rfl, fun _ => rfl⟩, ⟨.s10, rfl, fun _ => rfl⟩, ⟨.s11, rfl, fun _ => rfl⟩]

/-- Settles O25: the row is the transmit step of its byte. -/
theorem encodeRowsTransmit : Obligations.EncodeRowsTransmit := by
  intro s i b j hrow hp hr
  obtain ⟨y, rfl, hexec⟩ := exec_of_mem_dataEncodeRows hrow
  rw [hexec, transmit_ready hp hr]
  refine ⟨fun h hj => ?_, fun hj => ?_⟩
  · rw [afterPut_of_lt h (by exact hj)]
    rfl
  · rw [afterPut_of_not_lt (by exact hj)]
    rfl

/-- Settles O26: the lookup is all that the row does. -/
theorem encodeStopTransmitsNothing : Obligations.EncodeStopTransmitsNothing := fun _ => rfl

/-! ### The cleaner's row -/

/-- Settles O27: the row is the refresh step on its operand. -/
theorem cleanRefreshes : Obligations.CleanRefreshes := by
  intro s raw hp
  rw [exec_clean_of_refresh hp, buildFrame_eq]
  by_cases hcmd : s.cmd = .probeOrigin <;>
    simp [hcmd, goto, disableReceiver, setSnapshots, readInputs, emit, originTail, stateFrame, buttonIndex]

/-- No byte of the state frame is built from `MACRO` (R151). -/
theorem stateFrame_process_macroBtn (x : Axes) (snap : Snapshot) (b : ButtonState) (old : Vector LByte 10) :
    stateFrame x (process { snap with macroBtn := b }) old = stateFrame x (process snap) old := rfl

/-- Settles O35: `MACRO` reaches no byte of the frame, and of `CMD` a refresh asks only whether it is `ProbeOrigin`. -/
theorem macroAndRumbleInvisible : Obligations.MacroAndRumbleInvisible := by
  intro s snap hp
  refine ⟨fun b => ⟨_, _, exec_clean_of_refresh hp snap, exec_clean_of_refresh hp _, ?_⟩,
    fun r r' hcmd => ⟨_, _, exec_clean_of_refresh hp snap, exec_clean_of_refresh (by exact hp) snap, ?_⟩⟩
  · by_cases hcmd : s.cmd = .probeOrigin <;> simp [hcmd, stateFrame_process_macroBtn]
  · simp [hcmd]

/-! ### Where exec stops -/

theorem terminal_out_of_phase {n : Fin 13} {s : State} (h : s.ph ≠ .rx n) (c : Cmd) (err : Option ErrorRecord) :
    terminal n c err s = .fault .outOfPhase := by
  simp [terminal, h]

theorem receive_out_of_phase {s : State} (h : ∀ n, s.ph ≠ .rx n) (y : Sym6) (p : PByte) :
    receive y p s = .fault .outOfPhase := by
  unfold receive
  split <;> simp_all

theorem transmit_out_of_phase {s : State} (h : ∀ j, s.ph ≠ .tx j) (y : Sym) :
    transmit y s = .fault .outOfPhase := by
  unfold transmit
  split <;> simp_all

theorem refresh_out_of_phase {s : State} (h : s.ph ≠ .refresh) (raw : Snapshot) :
    refresh raw s = .fault .outOfPhase := by
  unfold refresh
  split <;> simp_all

/-- Settles O46: each row is one of four shared steps, and each of these asks for its phase. -/
theorem outOfPhaseAndIllFormedStop : Obligations.OutOfPhaseAndIllFormedStop := by
  refine fun s => ⟨fun h b0 => ⟨terminal_out_of_phase h _ _, terminal_out_of_phase h _ _, terminal_out_of_phase h _ _⟩,
    fun h b0 b1 b2 x => ⟨terminal_out_of_phase h _ _, terminal_out_of_phase h _ _, terminal_out_of_phase h _ _⟩,
    fun p y i hrow => ?_, fun i b hrow h => ?_, fun h raw => refresh_out_of_phase h raw⟩
  · rw [exec_of_mem_decodeRows hrow]
    refine ⟨fun hne => by simp [receiveAs, hne], fun heq h => ?_⟩
    rw [receiveAs_wf heq, receive_out_of_phase h]
  · obtain ⟨y, -, hexec⟩ := exec_of_mem_dataEncodeRows hrow
    rw [hexec, transmit_out_of_phase h]

end Sys2Proof.Machine
end

section
/-! PROOFS. The step at its boundaries: the instruction it runs (R14), the steps no instruction stands for (R146 to
R148), the wait (R203), and the state after reset (R30). -/

namespace Sys2Proof.Machine

/-! ### The instruction a step runs -/

theorem step_of_fetch {s : State} {i : Instr} (hc : s.cfg.wf = true) (hf : fetch s = some i) :
    step s = thenAdvance (exec i s) := by
  simp [step, hc, hf]

theorem fetch_of_rx_ready {s : State} {n : Fin 13} (hp : s.ph = .rx n) (hr : rxReady s = true) :
    fetch s = some (receiveInstr n s) := by
  simp [fetch, hp, hr]

/-- Three groups can be read off their twelve symbols. -/
theorem twelve_syms_inj {g0 g1 g2 g0' g1' g2' : SlotGroup}
    (h : g0.syms ++ g1.syms ++ g2.syms = g0'.syms ++ g1'.syms ++ g2'.syms) : g0 = g0' ∧ g1 = g1' ∧ g2 = g2' := by
  obtain ⟨_, _, _, _⟩ := g0
  obtain ⟨_, _, _, _⟩ := g1
  obtain ⟨_, _, _, _⟩ := g2
  simp only [SlotGroup.syms, List.cons_append, List.nil_append, List.cons.injEq] at h
  simp_all

/-- A stream of thirteen symbols decodes to a LONG command or not at all (R69, R73). -/
theorem decodeLong_of_decode_thirteen {c : Cfg} {g0 g1 g2 : SlotGroup} {x : Sym6} {i : Instr}
    (h : decode c (.stream (g0.syms ++ g1.syms ++ g2.syms ++ [x])) = .ok i) : i = decodeLong c g0 g1 g2 x := by
  obtain ⟨g, hys, -⟩ | ⟨g0', g1', g2', x', -, hys, rfl⟩ := decode_stream_ok h
  · have hlen := congrArg List.length hys
    simp [SlotGroup.syms] at hlen
  · obtain ⟨htwelve, hlast⟩ := List.append_inj' hys rfl
    obtain ⟨rfl, rfl, rfl⟩ := twelve_syms_inj htwelve
    rw [List.singleton_inj.mp hlast]

/-- Settles O11: in each phase the instruction that is decoded is the one that is fetched. -/
theorem stepRunsDecodedInstruction : Obligations.StepRunsDecodedInstruction := by
  intro s i hc
  refine ⟨fun hp hr hstop hdec => ?_, fun hp hr hdec => ?_, fun n hp hlast hstop hr hdec => ?_, fun hp hdec => ?_,
    fun j hp hr hdec => ?_⟩ <;> apply step_of_fetch hc
  · rw [decode_five, Except.ok.injEq] at hdec
    simp [fetch_of_rx_ready hp hr, receiveInstr, hstop, ← hdec]
  · simp [fetch_of_rx_ready hp hr, receiveInstr, decodeLong_of_decode_thirteen hdec]
  · rw [decode, Except.ok.injEq] at hdec
    rw [fetch_of_rx_ready hp hr, receiveInstr, if_neg hstop, if_neg hlast, hdec]
  · rw [decode, Except.ok.injEq] at hdec
    simp [fetch, hp, ← hdec]
  · rw [decode, Except.ok.injEq] at hdec
    simp [fetch, hp, hr, ← hdec]

/-- A table word is of 8 bits, one byte and a `STOP`, or of 24, three bytes and a `STOP` (assumption log 14). -/
theorem decodeTableWord_some {nbits w : Nat} {i : Instr} (h : decodeTableWord nbits w = some i) :
    (nbits = 8 ∧ decode hardwired (.stream ((groupOf (tableByte w 0)).syms ++ [.sym .stop])) = .ok i) ∨
    (nbits = 24 ∧ decode hardwired (.stream ((groupOf (tableByte w 16)).syms ++ (groupOf (tableByte w 8)).syms ++
      (groupOf (tableByte w 0)).syms ++ [.sym .stop])) = .ok i) := by
  unfold decodeTableWord at h
  split_ifs at h with h8 h24
  · exact .inl ⟨h8, by split at h <;> simp_all⟩
  · exact .inr ⟨h24, by split at h <;> simp_all⟩

/-- Settles O12: the placed state is the one in which the step takes the last symbol of the word's command. -/
theorem fetchWordRunsCommand : Obligations.FetchWordRunsCommand := by
  intro s nbits w i hcfg hword
  have hc : (s.withFetchWord nbits w).cfg.wf = true := by
    have : (s.withFetchWord nbits w).cfg = s.cfg := by
      unfold State.withFetchWord
      split_ifs <;> rfl
    rw [this, hcfg, hardwired_wf]
  refine ⟨?_, _, step_eq hc⟩
  have hstop : decodeByte s.cfg.cal s.cfg.cal.i = .sym .stop := by
    rw [hcfg]
    exact decodeByte_stop (Cfg.wf_distinct hardwired_wf)
  obtain ⟨rfl, hdec⟩ | ⟨rfl, hdec⟩ := decodeTableWord_some hword
  · obtain ⟨hshort, -⟩ := stepRunsDecodedInstruction _ i hc
    exact hshort rfl rfl hstop (by rw [← hcfg] at hdec; exact hdec)
  · obtain ⟨-, hlong, -⟩ := stepRunsDecodedInstruction _ i hc
    exact hlong rfl rfl (by rw [← hcfg, ← hstop] at hdec; exact hdec)

/-! ### The steps no instruction stands for -/

/-- Settles O39: a wait has no effect. -/
theorem waitChangesNothing : Obligations.WaitChangesNothing := fun s hc hwait => by
  rw [step_eq hc, effect_of_waits hwait]

/-- Settles O36: the effect of `TX(j)` is the `TxPut` of `TXB(j)`, or a wait. -/
theorem transmitStep : Obligations.TransmitStep := by
  intro s j hc hp
  refine ⟨fun hr h hj => ?_, fun hr hj => ?_, fun hr => ?_⟩
  · rw [step_eq hc, effect_of_tx_ready hp hr, afterPut_of_lt h (by exact hj)]
    rfl
  · rw [step_eq hc, effect_of_tx_ready hp hr, afterPut_of_not_lt (by exact hj)]
    rfl
  · exact waitChangesNothing s hc (by simpa [Waits, hp] using hr)

/-- Settles O37: the effect of `DRAIN`. -/
theorem drainStep : Obligations.DrainStep := by
  intro s hc hp
  rw [step_eq hc]
  simp only [effect, hp]
  rfl

/-- Settles O38: the effect of `STOPP`. -/
theorem stopPulseStep : Obligations.StopPulseStep := by
  intro s hc hp
  rw [step_eq hc, effect_of_stopp hp]
  rfl

/-- A sample in which the condition of the phase does not hold makes the core wait (R195, R206). -/
theorem waits_of_conditionIn {s : State} (h : conditionIn s.ph s.inputs = false) : Waits s := by
  cases hp : s.ph <;> simp_all [Waits, conditionIn, rxReady, txReady, txComplete]

/-- The environment's move leaves the core's own state as it is. -/
theorem sameCore_advance {s t : State} (h : sameCore (advance s) t) : sameCore s t := by
  have hcore := advance_core s
  unfold sameCore at h ⊢
  rw [← hcore, ← h]

/-- Settles O40: each poll is a wait, after which one sample less is awaited. -/
theorem waitHasNoTimeout : Obligations.WaitHasNoTimeout := by
  intro s k hc hwait
  induction k generalizing s with
  | zero => exact ⟨s, rfl, rfl⟩
  | succ k ih =>
    have hstep := waitChangesNothing s hc (waits_of_conditionIn (hwait 0 k.succ_pos))
    obtain ⟨t, hrun, hsame⟩ := ih (advance s) (by simpa using hc)
      fun l hl => by rw [advance_ph]; exact hwait (l + 1) (Nat.succ_lt_succ hl)
    exact ⟨t, (run_succ hstep).trans hrun, sameCore_advance hsame⟩

/-! ### Reset -/

/-- Settles O14: the reset state, field by field. -/
theorem resetValues : Obligations.ResetValues := ⟨rfl, rfl, rfl, rfl, rfl, rfl, rfl, rfl⟩

/-- Settles O15: the hardwired configuration meets its constraints, and `RX(0)` asks nothing of the registers. -/
theorem resetMeetsInvariant : Obligations.ResetMeetsInvariant where
  cfgWf := hardwired_wf
  rxen := rfl
  lines := ⟨rfl, rfl, rfl⟩
  agrees := trivial

end Sys2Proof.Machine
end

section
/-! PROOFS. The processed snapshot: free of conflicts, stable, lane by lane (R172 to R177); and the bytes of the state
frame (R134 to R140). -/

namespace Sys2Proof.Machine

/-! ### The processed snapshot -/

/-- A cleaned pair is not in conflict (R177). -/
theorem clean_conflict_free (n p : ButtonState) : ¬ ((clean n p).1 = .pushed ∧ (clean n p).2 = .pushed) := by
  cases n <;> cases p <;> decide

/-- Cleaning a cleaned pair changes nothing (R174). -/
theorem clean_idempotent (n p : ButtonState) : clean (clean n p).1 (clean n p).2 = clean n p := by
  cases n <;> cases p <;> rfl

/-- Settles O30: both hold pair by pair. -/
theorem processConflictFreeIdempotent : Obligations.ProcessConflictFreeIdempotent := by
  refine fun raw => ⟨fun neg pos hpair => ?_, ?_⟩
  · obtain ⟨hneg, hpos⟩ := Prod.ext_iff.mp (buttonOf_process_of_mem_socdPairs hpair raw)
    simp only at hneg hpos
    rw [hneg, hpos]
    exact clean_conflict_free _ _
  · simp only [process, clean_idempotent]

/-- Settles O31: a pair after processing is `clean` of that pair before it. -/
theorem lanesIndependent : Obligations.LanesIndependent := by
  intro raw raw' neg pos hpair hneg hpos
  have hlane := buttonOf_process_of_mem_socdPairs hpair
  rw [← Prod.mk.injEq, hlane raw, hlane raw', hneg, hpos]

/-! ### The frame bytes -/

/-- The bit of a button is 1 exactly when it is pushed (D5). -/
theorem buttonBit_eq_ofBool (x : ButtonState) : buttonBit x = BitVec.ofBool (x == .pushed) := by
  cases x <;> rfl

/-- The bits of a byte that is joined from eight, the first the most significant (D4). -/
theorem bits_of_joined (b7 b6 b5 b4 b3 b2 b1 b0 : Bool) :
    (List.ofFn fun k : Fin 8 => BitVec.getLsbD (w := 8) (BitVec.ofBool b7 ++ BitVec.ofBool b6 ++ BitVec.ofBool b5 ++
      BitVec.ofBool b4 ++ BitVec.ofBool b3 ++ BitVec.ofBool b2 ++ BitVec.ofBool b1 ++ BitVec.ofBool b0) (7 - k.val)) =
      [b7, b6, b5, b4, b3, b2, b1, b0] := by
  decide +revert

/-- Settles O32: each byte is joined from the bits of its buttons. -/
theorem buttonBytesBits : Obligations.ButtonBytesBits := by
  intro m
  simp only [frameByte0, frameByte1, buttonBit_eq_ofBool]
  exact ⟨bits_of_joined false false false _ _ _ _ _, bits_of_joined true _ _ _ _ _ _ _⟩

/-- Settles O33: the four low bits of byte 1 are those of two cleaned pairs. -/
theorem dpadNibbleNeverOpposed : Obligations.DpadNibbleNeverOpposed := by
  intro raw
  obtain ⟨hfree, -⟩ := processConflictFreeIdempotent raw
  obtain ⟨-, hbits⟩ := buttonBytesBits (process raw)
  simp only [List.ofFn_succ, List.ofFn_zero, List.cons.injEq] at hbits
  obtain ⟨-, -, -, -, (hup : (frameByte1 (process raw)).getLsbD 3 = _),
    (hdown : (frameByte1 (process raw)).getLsbD 2 = _), (hleft : (frameByte1 (process raw)).getLsbD 1 = _),
    (hright : (frameByte1 (process raw)).getLsbD 0 = _), -⟩ := hbits
  rw [hup, hdown, hleft, hright]
  simp only [beq_iff_eq]
  exact ⟨fun ⟨h3, h2⟩ => hfree .dpadDown .dpadUp (by decide) ⟨h2, h3⟩, hfree .dpadLeft .dpadRight (by decide)⟩

/-- A main-stick axis of a cleaned pair, as a function of the raw directions (R136, R138). -/
theorem axMain_clean (a : MainAxis) (neg pos tilt : ButtonState) :
    axMain a (clean neg pos).1 (clean neg pos).2 tilt =
      if neg = pos then a.center
      else if neg = .pushed then (if tilt = .pushed then a.tiltNeg else a.fullNeg)
      else (if tilt = .pushed then a.tiltPos else a.fullPos) := by
  cases neg <;> cases pos <;> rfl

/-- A C-stick axis of a cleaned pair, as a function of the raw directions (R136, R139). -/
theorem axC_clean (a : CAxis) (neg pos : ButtonState) :
    axC a (clean neg pos).1 (clean neg pos).2 =
      if neg = pos then a.center else if neg = .pushed then a.fullNeg else a.fullPos := by
  cases neg <;> cases pos <;> rfl

/-- Settles O34: each stick byte is the axis of one cleaned pair. -/
theorem stickAndTriggerBytes : Obligations.StickAndTriggerBytes := fun x raw _ =>
  ⟨axMain_clean x.mx raw.msLeft raw.msRight raw.tilt, axMain_clean x.my raw.msDown raw.msUp raw.tilt,
    axC_clean x.cx raw.csLeft raw.csRight, axC_clean x.cy raw.csDown raw.csUp, rfl, rfl⟩

end Sys2Proof.Machine
end

section
/-! PROOFS. Runs: what the environment drives along a run, and a parse symbol by symbol from `RX(0)` (R100 to R117). -/

namespace Sys2Proof.Machine

/-! ### Runs and the environment -/

theorem run_succ_last {k : Nat} {s t u : State} (h : run k s = .next t) (hstep : step t = .next u) :
    run (k + 1) s = .next u := by
  rw [run_add k 1 h, run_succ hstep, run_zero]

/-- No effect of the core moves the environment's script (R29). -/
theorem effect_upcoming_tick (s : State) : (effect s).upcoming = s.upcoming ∧ (effect s).tick = s.tick := by
  cases effect_cases s with
  | wait hwait h => simp [h]
  | symbol n hp hr hn hstop h => simp [h]
  | short hp hr hstop h => simp [h]
  | long hp hr h => simp [h]
  | refresh hp h => simp [h]
  | put j hp hr h => simp [h]
  | drained hp hr h => simp [h]
  | stop hp h => simp [h]

/-- What the environment drives next depends on its script and counter only. -/
theorem advance_env_congr {s s' : State} (hup : s.upcoming = s'.upcoming) (htick : s.tick = s'.tick) :
    (advance s).inputs = (advance s').inputs ∧ (advance s).upcoming = (advance s').upcoming ∧
      (advance s).tick = (advance s').tick := by
  unfold advance
  rw [← hup, ← htick]
  cases s.upcoming <;> simp

theorem inputAt_succ_congr {s s' : State} (hup : s.upcoming = s'.upcoming) (htick : s.tick = s'.tick) (k : Nat) :
    inputAt s (k + 1) = inputAt s' (k + 1) := by
  induction k generalizing s s' with
  | zero =>
    obtain ⟨hin, -⟩ := advance_env_congr hup htick
    exact hin
  | succ k ih =>
    obtain ⟨-, hup', htick'⟩ := advance_env_congr hup htick
    exact ih hup' htick'

/-- The samples a run leaves to come are those of its first state, from its length on. -/
theorem inputAt_of_run {k : Nat} {s t : State} (h : run k s = .next t) (l : Nat) : inputAt t l = inputAt s (k + l) := by
  induction k generalizing s with
  | zero =>
    obtain rfl : s = t := by simpa [run] using h
    rw [Nat.zero_add]
  | succ k ih =>
    cases hstep : step s with
    | next u =>
      rw [run_succ hstep] at h
      obtain ⟨-, rfl⟩ := step_next hstep
      obtain ⟨hup, htick⟩ := effect_upcoming_tick s
      rw [ih h, Nat.succ_add]
      exact inputAt_succ_congr hup htick (k + l)
    | fault r => simp [run, hstep, andThen] at h
    | refused r => simp [run, hstep, andThen] at h

/-- The registers that a parse before its end, and a response from its start, leave as they are. -/
structure KeepsRegisters (s t : State) : Prop where
  cfg : t.cfg = s.cfg
  cmd : t.cmd = s.cmd
  frame : t.frame = s.frame
  flen : t.flen = s.flen
  raw : t.raw = s.raw
  proc : t.proc = s.proc

theorem KeepsRegisters.trans {s t u : State} (h : KeepsRegisters s t) (h' : KeepsRegisters t u) : KeepsRegisters s u :=
  ⟨h'.cfg.trans h.cfg, h'.cmd.trans h.cmd, h'.frame.trans h.frame, h'.flen.trans h.flen, h'.raw.trans h.raw,
    h'.proc.trans h.proc⟩

/-! ### The stored symbols -/

/-- The twelve symbols the slots hold, in the order they are received. -/
def storedSyms (s : State) : List Sym6 := s.slot0.syms ++ s.slot1.syms ++ s.slot2.syms

@[simp] theorem length_storedSyms (s : State) : (storedSyms s).length = 12 := rfl

@[simp] theorem storedSyms_advance (s : State) : storedSyms (advance s) = storedSyms s := by
  simp [storedSyms]

@[simp] theorem storedSyms_goto (p : Phase) (s : State) : storedSyms (goto p s) = storedSyms s := rfl

/-- Receive step `n` stores its symbol at index `n`, the thirteenth nowhere (R101 to R105). -/
theorem storedSyms_received (n : Fin 13) (s : State) :
    storedSyms (received n s) = (storedSyms s).set n.val (decodeByte s.cfg.cal s.inputs.rxData) := by
  simp only [storedSyms, received, storeSymbol_eq, acquire_eq, SlotGroup.syms]
  fin_cases n <;> simp [putSlot]

/-- The symbols received so far are the ones received before and the new one. -/
theorem take_storedSyms_received {n : Fin 13} (hn : n.val < 12) (s : State) :
    (storedSyms (received n s)).take (n.val + 1) =
      (storedSyms s).take n.val ++ [decodeByte s.cfg.cal s.inputs.rxData] := by
  rw [storedSyms_received, List.take_succ_eq_append_getElem (by simpa using hn), List.take_set_of_le (Nat.le_refl _)]
  simp

/-- After four symbols the first slot group is known, after twelve all three. -/
theorem slot0_of_take {s : State} {y : Nat → Sym6} (h : (storedSyms s).take 4 = (List.range 4).map y) :
    s.slot0 = ⟨y 0, y 1, y 2, y 3⟩ := by
  rcases hslot : s.slot0 with ⟨y0, y1, y2, y3⟩
  simpa [storedSyms, hslot, SlotGroup.syms, List.range_succ] using h

theorem slots_of_take {s : State} {y : Nat → Sym6} (h : (storedSyms s).take 12 = (List.range 12).map y) :
    s.slot0 = ⟨y 0, y 1, y 2, y 3⟩ ∧ s.slot1 = ⟨y 4, y 5, y 6, y 7⟩ ∧ s.slot2 = ⟨y 8, y 9, y 10, y 11⟩ := by
  rcases hslot0 : s.slot0 with ⟨y0, y1, y2, y3⟩
  rcases hslot1 : s.slot1 with ⟨y4, y5, y6, y7⟩
  rcases hslot2 : s.slot2 with ⟨y8, y9, y10, y11⟩
  simpa [storedSyms, hslot0, hslot1, hslot2, SlotGroup.syms, List.range_succ, and_assoc] using h

/-! ### A parse -/

/-- The trace of `k` bytes taken. -/
def taken (p : Nat → PByte) (k : Nat) : List Event := (List.range k).map fun i => .rxTake (p i)

theorem taken_succ (p : Nat → PByte) (k : Nat) : taken p (k + 1) = taken p k ++ [.rxTake (p k)] := by
  simp [taken, List.range_succ]

/-- After `k` bytes of a parse that began in `s` (R101 to R104): they are taken and stored, and nothing else is done. -/
structure Parsing (s : State) (p : Nat → PByte) (k : Nat) (t : State) : Prop where
  ph : t.ph = .rx (Fin.ofNat 13 k)
  rxen : t.rxen = true
  stored : (storedSyms t).take k = (List.range k).map fun i => decodeByte s.cfg.cal (p i)
  trace : t.trace = s.trace ++ taken p k
  keeps : KeepsRegisters s t

/-- At the end of a parse of `k` bytes that gives the command `c` (R102, R105, R130). -/
structure ParseEnded (s : State) (p : Nat → PByte) (k : Nat) (c : Cmd) (t : State) : Prop where
  cmd : t.cmd = c
  ph : t.ph = dispatchPhase c
  rxen : t.rxen = receiverPhase (dispatchPhase c)
  trace : t.trace = s.trace ++ taken p k
  cfg : t.cfg = s.cfg
  raw : t.raw = s.raw
  proc : t.proc = s.proc
  frame : t.frame = if c = .probe then idFrame s.frame else s.frame
  flen : t.flen = if c = .probe then .id3 else s.flen

section
variable {s : State} {p : Nat → PByte} {m : Nat}
variable (hwf : s.cfg.wf = true) (hph : s.ph = .rx 0) (hrxen : s.rxen = true)
variable (hbytes : ∀ k, k < m → (inputAt s k).rxReady = true ∧ (inputAt s k).rxData = p k)

include hbytes in
/-- The byte that waits after `k` symbols. -/
theorem Parsing.byte_waits {k : Nat} {t : State} (ht : Parsing s p k t) (hrun : run k s = .next t) (hk : k < m) :
    rxReady t = true ∧ t.inputs.rxData = p k := by
  have hinputs : t.inputs = inputAt s k := inputAt_of_run hrun 0
  obtain ⟨hready, hdata⟩ := hbytes k hk
  exact ⟨by rw [rxReady, hinputs, hready, ht.rxen]; rfl, by rw [hinputs, hdata]⟩

include hwf hph hrxen hbytes in
/-- A parse goes on through the symbols that do not end it. -/
theorem exists_parsing {k : Nat} (hkm : k ≤ m) (hk : k ≤ 12)
    (hstop : 4 < k → decodeByte s.cfg.cal (p 4) ≠ .sym .stop) :
    ∃ t, run k s = .next t ∧ Parsing s p k t := by
  induction k with
  | zero => exact ⟨s, rfl, hph, hrxen, rfl, by simp [taken], rfl, rfl, rfl, rfl, rfl, rfl⟩
  | succ k ih =>
    obtain ⟨t, hrun, ht⟩ := ih (by omega) (by omega) fun h => hstop (by omega)
    obtain ⟨hready, hdata⟩ := ht.byte_waits hbytes hrun (by omega)
    obtain ⟨n, hn, rfl⟩ : ∃ n : Fin 13, Fin.ofNat 13 k = n ∧ n.val = k := ⟨_, rfl, Nat.mod_eq_of_lt (by omega)⟩
    have hph' : t.ph = .rx n := hn ▸ ht.ph
    have hgoes : ¬ (n.val = 4 ∧ decodeByte t.cfg.cal t.inputs.rxData = .sym .stop) := by
      rw [hdata, ht.keeps.cfg]
      rintro ⟨h4, h⟩
      exact hstop (by omega) (h4 ▸ h)
    have heffect : effect t = goto (.rx ⟨n.val + 1, by omega⟩) (received n t) := by
      rw [effect_of_rx_ready hph' hready, afterSymbol_goes_on (by omega) hgoes]
    have hstored := take_storedSyms_received (n := n) (by omega) t
    rw [ht.stored, hdata, ht.keeps.cfg] at hstored
    refine ⟨advance (effect t), run_succ_last hrun (step_eq (by rw [ht.keeps.cfg, hwf])), ?_⟩
    obtain ⟨hcfg, hcmd, hframe, hflen, hraw, hproc⟩ := ht.keeps
    rw [heffect]
    exact {
      ph := by
        rw [advance_ph, goto_ph]
        exact congrArg Phase.rx (Fin.ext (Nat.mod_eq_of_lt (by omega)).symm)
      rxen := by simp [ht.rxen]
      stored := by simp [hstored, List.range_succ]
      trace := by simp [ht.trace, hdata, taken_succ]
      keeps := ⟨by simp [hcfg], by simp [hcmd], by simp [hframe], by simp [hflen], by simp [hraw], by simp [hproc]⟩ }

/-- What the end of a parse makes of a state in which the parse is going on. -/
theorem parseEnded_conclude {k : Nat} {t : State} (ht : Parsing s p k t) (hdata : t.inputs.rxData = p k) (n : Fin 13)
    (c : Cmd) (err : Option ErrorRecord) : ParseEnded s p (k + 1) c (advance (conclude c err (received n t))) := by
  obtain ⟨hcfg, hcmd, hframe, hflen, hraw, hproc⟩ := ht.keeps
  exact {
    cmd := by simp
    ph := by simp
    rxen := by cases c <;> simp [ht.rxen, dispatchPhase, receiverPhase]
    trace := by simp [ht.trace, hdata, taken_succ]
    cfg := by simp [hcfg]
    raw := by simp [hraw]
    proc := by simp [hproc]
    frame := by simp [hframe]
    flen := by simp [hflen] }

include hwf hph hrxen hbytes in
/-- The short path: five bytes, the fifth a `STOP` (R102). -/
theorem exists_parseEnded_short (hm : 5 ≤ m) (hstop : decodeByte s.cfg.cal (p 4) = .sym .stop) :
    ∃ t, run 5 s = .next t ∧ ParseEnded s p 5 (classifyShort s.cfg ⟨decodeByte s.cfg.cal (p 0),
      decodeByte s.cfg.cal (p 1), decodeByte s.cfg.cal (p 2), decodeByte s.cfg.cal (p 3)⟩) t := by
  obtain ⟨t, hrun, ht⟩ := exists_parsing hwf hph hrxen hbytes (k := 4) (by omega) (by omega) (by omega)
  obtain ⟨hready, hdata⟩ := ht.byte_waits hbytes hrun (by omega)
  have hsym : decodeByte t.cfg.cal t.inputs.rxData = .sym .stop := by rw [ht.keeps.cfg, hdata, hstop]
  refine ⟨_, run_succ_last hrun (step_eq (by rw [ht.keeps.cfg, hwf])), ?_⟩
  rw [effect_of_short ht.ph hready hsym, slot0_of_take ht.stored, ht.keeps.cfg]
  exact parseEnded_conclude ht hdata 4 _ _

include hwf hph hrxen hbytes in
/-- The long path: thirteen bytes, the fifth no `STOP` (R105). -/
theorem exists_parseEnded_long (hm : 13 ≤ m) (hstop : decodeByte s.cfg.cal (p 4) ≠ .sym .stop) :
    ∃ t, run 13 s = .next t ∧ ParseEnded s p 13 (classifyLong s.cfg
      ⟨decodeByte s.cfg.cal (p 0), decodeByte s.cfg.cal (p 1), decodeByte s.cfg.cal (p 2), decodeByte s.cfg.cal (p 3)⟩
      ⟨decodeByte s.cfg.cal (p 4), decodeByte s.cfg.cal (p 5), decodeByte s.cfg.cal (p 6), decodeByte s.cfg.cal (p 7)⟩
      ⟨decodeByte s.cfg.cal (p 8), decodeByte s.cfg.cal (p 9), decodeByte s.cfg.cal (p 10),
        decodeByte s.cfg.cal (p 11)⟩) t := by
  obtain ⟨t, hrun, ht⟩ := exists_parsing hwf hph hrxen hbytes (k := 12) (by omega) (by omega) fun _ => hstop
  obtain ⟨hready, hdata⟩ := ht.byte_waits hbytes hrun (by omega)
  refine ⟨_, run_succ_last hrun (step_eq (by rw [ht.keeps.cfg, hwf])), ?_⟩
  obtain ⟨h0, h1, h2⟩ := slots_of_take ht.stored
  rw [effect_of_long ht.ph hready, h0, h1, h2, ht.keeps.cfg]
  exact parseEnded_conclude ht hdata 12 _ _

end

/-- Settles O47: a parse of five or of thirteen bytes, `CMD` unchanged up to its last step. -/
theorem parserTakesFiveOrThirteen : Obligations.ParserTakesFiveOrThirteen := by
  intro s p y hwf hph hrxen hbytes hy
  obtain rfl : y = fun k => decodeByte s.cfg.cal (p k) := funext hy
  refine ⟨fun k hk => ?_, fun hstop => ?_, fun hstop => ⟨fun k hk => ?_, ?_⟩⟩
  · obtain ⟨t, hrun, ht⟩ := exists_parsing hwf hph hrxen hbytes (k := k) (by omega) (by omega) (by omega)
    exact ⟨t, hrun, ht.ph, ht.keeps.cmd⟩
  · obtain ⟨t, hrun, ht⟩ := exists_parseEnded_short hwf hph hrxen hbytes (by omega) hstop
    exact ⟨t, hrun, ht.cmd, ht.trace, ht.cmd ▸ ht.ph, ht.cmd ▸ ht.rxen⟩
  · obtain ⟨t, hrun, ht⟩ := exists_parsing hwf hph hrxen hbytes (k := k) (by omega) hk fun _ => hstop
    exact ⟨t, hrun, ht.ph, ht.keeps.cmd⟩
  · obtain ⟨t, hrun, ht⟩ := exists_parseEnded_long hwf hph hrxen hbytes (by omega) hstop
    exact ⟨t, hrun, ht.cmd, ht.trace, ht.cmd ▸ ht.ph, ht.cmd ▸ ht.rxen⟩

end Sys2Proof.Machine
end

section
/-! PROOFS. A response from `TX(0)` to its stop pulse (R145 to R148), and the whole cycles of the commands that are
answered (R190). -/

namespace Sys2Proof.Machine

/-! ### The response -/

/-- The trace of the first `k` bytes of a response. -/
def sent (c : Cal) (f : Vector LByte 10) (k : Nat) : List Event :=
  (List.range k).map fun j => .txPut (txByte c f (Fin.ofNat 40 j))

theorem sent_succ (c : Cal) (f : Vector LByte 10) (k : Nat) :
    sent c f (k + 1) = sent c f k ++ [.txPut (txByte c f (Fin.ofNat 40 k))] := by
  simp [sent, List.range_succ]

/-- The bytes of a whole response are the first `4*FLEN` (R145). -/
theorem responseEvents_eq_sent (c : Cal) (f : Vector LByte 10) (n : FrameLen) :
    responseEvents c f n = sent c f (4 * n.toNat) := by
  cases n <;> rfl

/-- After `k` bytes of the response that began in `s` (R146): they are sent, and nothing else is done. -/
structure Sending (s : State) (k : Nat) (t : State) : Prop where
  ph : t.ph = if k < 4 * s.flen.toNat then .tx (Fin.ofNat 40 k) else .drain
  trace : t.trace = s.trace ++ sent s.cfg.cal s.frame k
  keeps : KeepsRegisters s t

theorem flen_bounds (n : FrameLen) : 0 < n.toNat ∧ n.toNat ≤ 10 := by
  cases n <;> decide

/-- When `tx_ready` holds as it is awaited, each step sends one byte. -/
theorem exists_sending {s : State} (hwf : s.cfg.wf = true) (hph : s.ph = .tx 0) {k : Nat} (hk : k ≤ 4 * s.flen.toNat)
    (hready : ∀ l, l < k → (inputAt s l).txReady = true) : ∃ t, run k s = .next t ∧ Sending s k t := by
  obtain ⟨hpos, hle⟩ := flen_bounds s.flen
  induction k with
  | zero => exact ⟨s, rfl, by rw [hph, if_pos (by omega)]; rfl, by simp [sent], rfl, rfl, rfl, rfl, rfl, rfl⟩
  | succ k ih =>
    obtain ⟨t, hrun, ht⟩ := ih (by omega) fun l hl => hready l (by omega)
    obtain ⟨j, hj, rfl⟩ : ∃ j : Fin 40, Fin.ofNat 40 k = j ∧ j.val = k := ⟨_, rfl, Nat.mod_eq_of_lt (by omega)⟩
    have hph' : t.ph = .tx j := by rw [ht.ph, if_pos (by omega), hj]
    have hready' : txReady t = true := by
      have hinputs : t.inputs = inputAt s j.val := inputAt_of_run hrun 0
      rw [txReady, hinputs, hready j.val (by omega)]
    refine ⟨advance (effect t), run_succ_last hrun (step_eq (by rw [ht.keeps.cfg, hwf])), ?_⟩
    obtain ⟨hcfg, hcmd, hframe, hflen, hraw, hproc⟩ := ht.keeps
    rw [effect_of_tx_ready hph' hready']
    exact {
      ph := by
        rw [advance_ph]
        obtain ⟨hlt, hin, hput⟩ | ⟨hend, hput⟩ := afterPut_cases j
            (txPutByte (txByte t.cfg.cal t.frame j) (encodeLookup (txSym t.frame j) t)) <;> rw [hput, goto_ph]
        · rw [txPutByte_flen, encodeLookup_flen, hflen] at hin
          rw [if_pos hin]
          exact congrArg Phase.tx (Fin.ext (Nat.mod_eq_of_lt hlt).symm)
        · rw [txPutByte_flen, encodeLookup_flen, hflen] at hend
          rw [if_neg hend]
      trace := by simp [ht.trace, hcfg, hframe, sent_succ]
      keeps := ⟨by simp [hcfg], by simp [hcmd], by simp [hframe], by simp [hflen], by simp [hraw], by simp [hproc]⟩ }

/-- At the end of the response that began in `s`, sent whole and stopped (R148). -/
structure ResponseEnded (s t : State) : Prop where
  ph : t.ph = .rx 0
  rxen : t.rxen = true
  trace : t.trace = s.trace ++ responseEvents s.cfg.cal s.frame s.flen ++ [.stopPulse]
  keeps : KeepsRegisters s t

/-- The transmit steps, the drain step and the stop step, when each condition holds as it is awaited (R195). -/
theorem exists_responseEnded {s : State} (hwf : s.cfg.wf = true) (hph : s.ph = .tx 0)
    (hready : ∀ k, k < 4 * s.flen.toNat → (inputAt s k).txReady = true)
    (hcomplete : (inputAt s (4 * s.flen.toNat)).txComplete = true) :
    ∃ t, run (4 * s.flen.toNat + 2) s = .next t ∧ ResponseEnded s t := by
  obtain ⟨t, hrun, ht⟩ := exists_sending hwf hph (Nat.le_refl _) hready
  have hph' : t.ph = .drain := by rw [ht.ph, if_neg (Nat.lt_irrefl _)]
  have hinputs : t.inputs = inputAt s (4 * s.flen.toNat) := inputAt_of_run hrun 0
  have hwf' : t.cfg.wf = true := by rw [ht.keeps.cfg, hwf]
  have hdrain := drainStep t hwf' hph'
  rw [hinputs, if_pos hcomplete] at hdrain
  have hstop := stopPulseStep (advance { t with ph := .stopp }) (by simpa using hwf') (by simp)
  refine ⟨_, run_succ_last (run_succ_last hrun hdrain) hstop, ?_⟩
  obtain ⟨hcfg, hcmd, hframe, hflen, hraw, hproc⟩ := ht.keeps
  exact {
    ph := by simp
    rxen := by simp
    trace := by simp [ht.trace, responseEvents_eq_sent]
    keeps := ⟨by simp [hcfg], by simp [hcmd], by simp [hframe], by simp [hflen], by simp [hraw], by simp [hproc]⟩ }

/-- Settles O48: the end of the response, as far as the statement looks at it. -/
theorem responseSentThenStopped : Obligations.ResponseSentThenStopped := by
  intro s hwf hph hready hcomplete
  obtain ⟨t, hrun, ht⟩ := exists_responseEnded hwf hph hready hcomplete
  exact ⟨t, hrun, ht.ph, ht.rxen, ht.trace⟩

/-! ### The cycles -/

/-- The group of four received symbols that are those of a constant. -/
theorem slotGroup_eq_groupOf {y : Nat → Sym6} {v : LByte}
    (h : ∀ k, k < 4 → y k = .sym (symAt v (Fin.ofNat 4 k))) : (⟨y 0, y 1, y 2, y 3⟩ : SlotGroup) = groupOf v := by
  rw [h 0 (by decide), h 1 (by decide), h 2 (by decide), h 3 (by decide)]
  rfl

/-- The identification response: the twelve bytes of `09 00 03` (R131, R145). -/
theorem responseEvents_idFrame (c : Cal) (f : Vector LByte 10) :
    responseEvents c (idFrame f) .id3 =
      [.txPut c.a, .txPut c.a, .txPut c.e, .txPut c.c, .txPut c.a, .txPut c.a, .txPut c.a, .txPut c.a,
       .txPut c.a, .txPut c.a, .txPut c.a, .txPut c.g] := by
  simp [responseEvents_eq_sent, sent, FrameLen.toNat, List.range_succ, txByte, txSym, idFrame, idByte0, idByte1, idByte2,
    symAt, symOf, encodeSym]

/-- Settles O49: a parse of five bytes, then the response of twelve. -/
theorem probeCycle : Obligations.ProbeCycle := by
  intro s p hwf hph hrxen hbytes hsyms hstop hready hcomplete
  obtain ⟨u, hrun, hu⟩ := exists_parseEnded_short hwf hph hrxen hbytes (Nat.le_refl 5) hstop
  rw [slotGroup_eq_groupOf hsyms, (classifyShort_eq_probe_iff _ _).mpr (groupMatches_groupOf _)] at hu
  have hflen : u.flen = .id3 := by simpa using hu.flen
  have hframe : u.frame = idFrame s.frame := by simpa using hu.frame
  obtain ⟨t, hrun', ht⟩ := exists_responseEnded (s := u) (by rw [hu.cfg, hwf]) hu.ph
    (fun k hk => by
      rw [hflen] at hk
      rw [inputAt_of_run hrun]
      exact hready _ (by omega) (by simp only [FrameLen.toNat] at hk; omega))
    (by rw [hflen, inputAt_of_run hrun]; exact hcomplete)
  rw [hflen] at hrun'
  refine ⟨t, (run_add 5 14 hrun).trans hrun', ht.ph, ht.rxen, ht.keeps.cmd.trans hu.cmd, ht.keeps.raw.trans hu.raw,
    ht.keeps.proc.trans hu.proc, ht.keeps.flen.trans hflen, ?_, ?_, ?_, ?_⟩
  · rw [ht.keeps.frame, hframe]; rfl
  · rw [ht.keeps.frame, hframe]; rfl
  · rw [ht.keeps.frame, hframe]; rfl
  · rw [ht.trace, hu.trace, hu.cfg, hframe, hflen, responseEvents_idFrame, List.append_assoc]
    rfl

/-- The frame length of the response to a command that is answered from a snapshot (R141, R142). -/
def snapshotLen (c : Cmd) : FrameLen := if c = .probeOrigin then .origin10 else .state8

/-- The frame of such a response (R132, R142). -/
def snapshotFrame (c : Cmd) (x : Axes) (m : Snapshot) (old : Vector LByte 10) : Vector LByte 10 :=
  if c = .probeOrigin then originTail (stateFrame x m old) else stateFrame x m old

/-- A snapshot's response does not show what the frame held before (R134 to R142). -/
theorem snapshotFrame_getElem_congr (c : Cmd) (x : Axes) (m : Snapshot) (old old' : Vector LByte 10) {i : Nat}
    (hi : i < 10) (hlen : i < (snapshotLen c).toNat) : (snapshotFrame c x m old)[i] = (snapshotFrame c x m old')[i] := by
  by_cases hc : c = .probeOrigin
  · subst hc
    rfl
  · simp only [snapshotLen, if_neg hc, FrameLen.toNat] at hlen
    simp only [snapshotFrame, if_neg hc]
    interval_cases i <;> rfl

/-- What the refresh step leaves in the registers that the response is sent from (R132). -/
structure Refreshed (s t : State) : Prop where
  cfg : t.cfg = s.cfg
  ph : t.ph = .tx 0
  rxen : t.rxen = false
  cmd : t.cmd = s.cmd
  flen : t.flen = snapshotLen s.cmd
  frame : t.frame = snapshotFrame s.cmd s.cfg.axes (process s.inputs.buttons) s.frame

theorem refreshed_effect {s : State} (hp : s.ph = .refresh) : Refreshed s (effect s) := by
  rw [effect_of_refresh hp]
  exact ⟨by simp, by simp, by simp, by simp, buildFrame_flen _, buildFrame_frame _⟩

/-- From `REFRESH`: the snapshot is read once, the frame built from it is sent whole, and the response is stopped. -/
theorem exists_refreshed_responseEnded {s : State} {c : Cmd} (hwf : s.cfg.wf = true) (hph : s.ph = .refresh)
    (hcmd : s.cmd = c) (hready : ∀ k, 1 ≤ k → k < 1 + 4 * (snapshotLen c).toNat → (inputAt s k).txReady = true)
    (hcomplete : (inputAt s (1 + 4 * (snapshotLen c).toNat)).txComplete = true) :
    ∃ t, run (1 + (4 * (snapshotLen c).toNat + 2)) s = .next t ∧ t.ph = .rx 0 ∧ t.rxen = true ∧ t.cmd = c ∧
      t.trace = s.trace ++ [.inRefresh s.inputs.buttons] ++
        responseEvents s.cfg.cal (snapshotFrame c s.cfg.axes (process s.inputs.buttons) s.frame) (snapshotLen c) ++
        [.stopPulse] := by
  subst hcmd
  obtain ⟨hcfg, hph', -, hcmd, hflen, hframe⟩ := refreshed_effect hph
  have htrace : (effect s).trace = s.trace ++ [.inRefresh s.inputs.buttons] := by
    rw [effect_trace, stepEvents, hph]
  have hrun : run 1 s = .next (advance (effect s)) := by rw [run_succ (step_eq hwf), run_zero]
  obtain ⟨t, hrun', ht⟩ := exists_responseEnded (s := advance (effect s)) (by simp [hcfg, hwf]) (by simp [hph'])
    (fun k hk => by
      rw [advance_flen, hflen] at hk
      rw [inputAt_of_run hrun]
      exact hready _ (by omega) (by omega))
    (by rw [advance_flen, hflen, inputAt_of_run hrun]; exact hcomplete)
  rw [advance_flen, hflen] at hrun'
  refine ⟨t, (run_add 1 _ hrun).trans hrun', ht.ph, ht.rxen, ht.keeps.cmd.trans (by simp [hcmd]), ?_⟩
  simp only [ht.trace, advance_trace, advance_cfg, advance_frame, advance_flen, htrace, hcfg, hframe, hflen]

/-- Settles O50: a parse of five bytes, then the refresh and the response of forty. -/
theorem probeOriginCycle : Obligations.ProbeOriginCycle := by
  intro s p hwf hph hrxen hbytes hsyms hstop hready hcomplete
  obtain ⟨u, hrun, hu⟩ := exists_parseEnded_short hwf hph hrxen hbytes (Nat.le_refl 5) hstop
  rw [slotGroup_eq_groupOf hsyms, (classifyShort_eq_probeOrigin_iff hwf _).mpr (groupMatches_groupOf _)] at hu
  have hlen : (snapshotLen .probeOrigin).toNat = 10 := rfl
  obtain ⟨t, hrun', hph', hrxen', hcmd, htrace⟩ := exists_refreshed_responseEnded (by rw [hu.cfg, hwf]) hu.ph hu.cmd
    (fun k hk hk' => by
      rw [inputAt_of_run hrun]
      exact hready _ (by omega) (by rw [hlen] at hk'; omega))
    (by rw [inputAt_of_run hrun]; exact hcomplete)
  have hinputs : u.inputs = inputAt s 5 := inputAt_of_run hrun 0
  have hframe : u.frame = s.frame := by simpa using hu.frame
  refine ⟨t, (run_add 5 43 hrun).trans hrun', hph', hrxen', hcmd, ?_⟩
  rw [htrace, hu.trace, hu.cfg, hinputs, hframe]
  rfl

/-- Settles O51: a parse of thirteen bytes, then the refresh and the response of thirty-two. -/
theorem pollCycle : Obligations.PollCycle := by
  intro s p r hwf hph hrxen hbytes hsyms0 hsyms1 hsyms2 hready hcomplete
  have hdata : decodeByte s.cfg.cal (p 4) ≠ .sym .stop := by
    have h := hsyms1 0 (by decide)
    rw [h, Ne, Sym6.sym.injEq]
    exact symAt_ne_stop _ _
  obtain ⟨u, hrun, hu⟩ := exists_parseEnded_long hwf hph hrxen hbytes (Nat.le_refl 13) hdata
  have hpoll : classifyLong s.cfg (groupOf s.cfg.cmdB0Poll) (groupOf 0x0F)
      (groupOf (if r then 0x01 else 0x00)) = .poll r :=
    (classifyLong_eq_poll_iff _ _ _ _ r).mpr ⟨groupMatches_groupOf _, groupMatches_groupOf _, groupMatches_groupOf _⟩
  rw [slotGroup_eq_groupOf hsyms0, slotGroup_eq_groupOf (y := fun k => decodeByte s.cfg.cal (p (4 + k))) hsyms1,
    slotGroup_eq_groupOf (y := fun k => decodeByte s.cfg.cal (p (8 + k))) hsyms2, hpoll] at hu
  have hlen : (snapshotLen (.poll r)).toNat = 8 := rfl
  obtain ⟨t, hrun', hph', hrxen', hcmd, htrace⟩ := exists_refreshed_responseEnded (by rw [hu.cfg, hwf]) hu.ph hu.cmd
    (fun k hk hk' => by
      rw [inputAt_of_run hrun]
      exact hready _ (by omega) (by rw [hlen] at hk'; omega))
    (by rw [inputAt_of_run hrun]; exact hcomplete)
  have hinputs : u.inputs = inputAt s 13 := inputAt_of_run hrun 0
  have hframe : u.frame = s.frame := by simpa using hu.frame
  refine ⟨t, (run_add 13 35 hrun).trans hrun', hph', hrxen', hcmd, ?_⟩
  rw [htrace, hu.trace, hu.cfg, hinputs, hframe]
  rfl

end Sys2Proof.Machine
end

section
/-! PROOFS. A cycle carries nothing into the next (R194): two machines that agree on the registers their phase still reads
keep agreeing, and do the same at the ports. -/

namespace Sys2Proof.Machine

/-- The data registers that the rest of the cycle reads: the symbols received so far, the command, the bytes of the
response; at `RX(0)` and after the last byte, none. -/
def LiveDataAgrees (s s' : State) : Prop :=
  match s.ph with
  | .rx n => (storedSyms s').take n.val = (storedSyms s).take n.val
  | .refresh => s'.cmd = s.cmd
  | .tx j => j.val < 4 * s.flen.toNat ∧ s'.flen = s.flen ∧
      ∀ i (h : i < 10), i < s.flen.toNat → s'.frame[i] = s.frame[i]
  | .drain => True
  | .stopp => True

/-- Two machines agree, as far as their own state can be seen at the ports in the rest of the cycle. -/
structure Agrees (s s' : State) : Prop where
  cfg : s'.cfg = s.cfg
  ph : s'.ph = s.ph
  rxen : s'.rxen = s.rxen
  data : LiveDataAgrees s s'

theorem Agrees.advance {s s' : State} (h : Agrees s s') : Agrees (advance s) (advance s') where
  cfg := by simpa using h.cfg
  ph := by simpa using h.ph
  rxen := by simpa using h.rxen
  data := by simpa [LiveDataAgrees] using h.data

section
variable {s s' : State}

theorem Agrees.rxReady (h : Agrees s s') (hin : s'.inputs = s.inputs) : rxReady s' = rxReady s := by
  simp only [Machine.rxReady, hin, h.rxen]

theorem txReady_congr (hin : s'.inputs = s.inputs) : txReady s' = txReady s := by
  simp only [txReady, hin]

/-- The symbol at a place of the response is the same while the response goes on. -/
theorem Agrees.txByte {j : Fin 40} (h : Agrees s s') (hp : s.ph = .tx j) :
    txByte s'.cfg.cal s'.frame j = txByte s.cfg.cal s.frame j := by
  have hdata := h.data
  simp only [LiveDataAgrees, hp] at hdata
  obtain ⟨hj, -, hframe⟩ := hdata
  simp only [Machine.txByte, txSym, h.cfg, hframe (j.val / 4) (by omega) (by omega)]

theorem Agrees.stepEvents (h : Agrees s s') (hin : s'.inputs = s.inputs) : stepEvents s' = stepEvents s := by
  cases hp : s.ph with
  | tx j => simp [Machine.stepEvents, h.ph, hp, h.txByte hp, txReady_congr hin]
  | _ => simp [Machine.stepEvents, h.ph, hp, h.rxReady hin, hin]

theorem Agrees.waits (h : Agrees s s') (hin : s'.inputs = s.inputs) (hwait : Waits s) : Waits s' := by
  unfold Waits at *
  simp only [h.ph, h.rxReady hin, txReady, txComplete, hin]
  exact hwait

/-- A group can be read off its symbols. -/
theorem syms_inj {g g' : SlotGroup} (h : g.syms = g'.syms) : g = g' := by
  obtain ⟨_, _, _, _⟩ := g
  obtain ⟨_, _, _, _⟩ := g'
  simpa [SlotGroup.syms] using h

/-- Whatever two parses left in the other registers, their ends agree when they give the same command (R130). -/
theorem agrees_conclude (c : Cmd) (err err' : Option ErrorRecord) (hcfg : s'.cfg = s.cfg) (hrxen : s'.rxen = s.rxen) :
    Agrees (conclude c err s) (conclude c err' s') where
  cfg := by simpa using hcfg
  ph := by simp
  rxen := by simp [hrxen]
  data := by
    cases c with
    | probe =>
      refine ⟨by simp [FrameLen.toNat], by simp, fun i hi hlen => ?_⟩
      simp only [conclude_flen, if_true, FrameLen.toNat] at hlen
      simp only [conclude_frame, if_true]
      interval_cases i <;> rfl
    | probeOrigin | poll r => simp [LiveDataAgrees, dispatchPhase]
    | unknown => simp [LiveDataAgrees, dispatchPhase]

/-- Agreement is kept by every effect. -/
theorem Agrees.effect (h : Agrees s s') (hin : s'.inputs = s.inputs) : Agrees (effect s) (effect s') := by
  obtain ⟨hcfg, hph, hrxen, hdata⟩ := id h
  cases effect_cases s with
  | wait hwait heff => rwa [heff, effect_of_waits (h.waits hin hwait)]
  | symbol n hp hr hn hstop heff =>
    have hp' : s'.ph = .rx n := hph.trans hp
    have heff' : Machine.effect s' = goto (.rx ⟨n.val + 1, hn⟩) (received n s') := by
      rw [effect_of_rx_ready hp' ((h.rxReady hin).trans hr), afterSymbol_goes_on hn (by rwa [hcfg, hin])]
    simp only [LiveDataAgrees, hp] at hdata
    rw [heff, heff']
    refine ⟨by simp [hcfg], by simp, by simp [hrxen], ?_⟩
    simp [LiveDataAgrees, take_storedSyms_received (n := n) (by omega), hdata, hcfg, hin]
  | short hp hr hstop heff =>
    simp only [LiveDataAgrees, hp] at hdata
    have hslot : s'.slot0 = s.slot0 := syms_inj hdata
    rw [heff, effect_of_short (hph.trans hp) ((h.rxReady hin).trans hr) (by rwa [hcfg, hin]), hslot, hcfg]
    exact agrees_conclude _ _ _ (by simp [hcfg]) (by simp [hrxen])
  | long hp hr heff =>
    simp only [LiveDataAgrees, hp] at hdata
    obtain ⟨h0, h1, h2⟩ : s'.slot0 = s.slot0 ∧ s'.slot1 = s.slot1 ∧ s'.slot2 = s.slot2 := twelve_syms_inj hdata
    rw [heff, effect_of_long (hph.trans hp) ((h.rxReady hin).trans hr), h0, h1, h2, hcfg]
    exact agrees_conclude _ _ _ (by simp [hcfg]) (by simp [hrxen])
  | refresh hp heff =>
    simp only [LiveDataAgrees, hp] at hdata
    have hs := refreshed_effect hp
    have hs' := refreshed_effect (hph.trans hp)
    refine ⟨by rw [hs'.cfg, hs.cfg, hcfg], by rw [hs'.ph, hs.ph], by rw [hs'.rxen, hs.rxen], ?_⟩
    simp only [LiveDataAgrees, hs.ph, hs.flen, hs'.flen, hs.frame, hs'.frame, hdata, hcfg, hin]
    refine ⟨Nat.mul_pos (by decide) (flen_bounds _).1, trivial, fun i hi hlen => ?_⟩
    exact snapshotFrame_getElem_congr _ _ _ _ _ hi hlen
  | put j hp hr heff =>
    simp only [LiveDataAgrees, hp] at hdata
    obtain ⟨hj, hflen, hframe⟩ := hdata
    rw [heff, effect_of_tx_ready (hph.trans hp) ((txReady_congr hin).trans hr)]
    obtain ⟨hlt, hin', hput⟩ | ⟨hend, hput⟩ := afterPut_cases j
      (txPutByte (Machine.txByte s.cfg.cal s.frame j) (encodeLookup (txSym s.frame j) s))
    · rw [hput, afterPut_of_lt hlt (by simpa [hflen] using hin')]
      exact ⟨by simp [hcfg], by simp, by simp [hrxen], hin', hflen, hframe⟩
    · rw [hput, afterPut_of_not_lt (by simpa [hflen] using hend)]
      exact ⟨by simp [hcfg], by simp, by simp [hrxen], trivial⟩
  | drained hp hr heff =>
    have hr' : txComplete s' = true := by rwa [txComplete, hin]
    rw [heff, effect_of_drained (hph.trans hp) hr']
    exact ⟨hcfg, rfl, hrxen, trivial⟩
  | stop hp heff =>
    rw [heff, effect_of_stopp (hph.trans hp)]
    exact ⟨hcfg, rfl, rfl, rfl⟩

end

/-- Two machines that agree and see the same environment append the same events in any number of steps. -/
theorem Agrees.run {s s' : State} (h : Agrees s s') (hwf : s.cfg.wf = true) (hin : s'.inputs = s.inputs)
    (hup : s'.upcoming = s.upcoming) (htick : s'.tick = s.tick) (k : Nat) :
    ∃ t t' ev, run k s = .next t ∧ run k s' = .next t' ∧ t.trace = s.trace ++ ev ∧ t'.trace = s'.trace ++ ev := by
  induction k generalizing s s' with
  | zero => exact ⟨s, s', [], rfl, rfl, by simp, by simp⟩
  | succ k ih =>
    have hwf' : s'.cfg.wf = true := by rw [h.cfg, hwf]
    obtain ⟨hu, hk⟩ := effect_upcoming_tick s
    obtain ⟨hu', hk'⟩ := effect_upcoming_tick s'
    obtain ⟨henv, hup', htick'⟩ := advance_env_congr (hu'.trans (hup.trans hu.symm)) (hk'.trans (htick.trans hk.symm))
    obtain ⟨hcfg, -⟩ := registersWrittenByTheirSteps s _ (step_eq hwf)
    obtain ⟨t, t', ev, hrun, hrun', ht, ht'⟩ := ih (h.effect hin).advance (by rw [hcfg, hwf]) henv hup' htick'
    refine ⟨t, t', Machine.stepEvents s ++ ev, (run_succ (step_eq hwf)).trans hrun,
      (run_succ (step_eq hwf')).trans hrun', ?_, ?_⟩
    · rw [ht, advance_trace, effect_trace, List.append_assoc]
    · rw [ht', advance_trace, effect_trace, h.stepEvents hin, List.append_assoc]

/-- Settles O52: at `RX(0)` no data register is read any more, so the two machines agree. -/
theorem cyclesCarryNothingOver : Obligations.CyclesCarryNothingOver := by
  intro s s' hwf hcfg hph hph' hrxen hrxen' hin hup htick k
  have hagrees : Agrees s s' := ⟨hcfg, hph'.trans hph.symm, hrxen'.trans hrxen.symm, by simp [LiveDataAgrees, hph]⟩
  exact hagrees.run hwf hin hup htick k

end Sys2Proof.Machine
end
